-- ==== Sys2Proof/Word.lean ====
section
/-! DEFINITION. The word of the register window (00_scope.md R6, R9, R10): 32 bits, bit 0 least significant. -/

namespace Sys2Proof

/-- A 32-bit register or command word (R6). -/
abbrev Word := BitVec 32

/-- The level of the digital output line: `true` is high, `false` is low (40_line.md R100, `SET(v)`). -/
abbrev Level := Bool

end Sys2Proof
end

