-- ==== Sys2Proof/Config.lean ====
section
/-! DEFINITION. The parameters of OOKTX: the fixed ones of 00_scope.md R6 as constants, the open ones of R7 as the
structure `Config`, which State carries and no step changes. -/

namespace Sys2Proof

/-- The two line backends a block can be built for (R7, 40_line.md R105). -/
inductive Backend where
  /-- the line is opened once and held while OOKTX is open -/
  | direct
  /-- the line is looked up at the start of every line-driving command -/
  | board
deriving DecidableEq, Repr

/-- The open parameters of R7, which "a model takes as arguments". -/
structure Config where
  /-- CLK_PER_US: clock cycles per microsecond, at least 1 -/
  clkPerUs : Nat
  /-- BACKEND: fixed for a built block -/
  backend : Backend
  /-- BASE: host address of the register window, a multiple of 64 -/
  base : Nat
deriving DecidableEq, Repr

/-- The domains R7 and 20_memory.md R60 give the open parameters. -/
def Config.wf (c : Config) : Bool := decide (1 ≤ c.clkPerUs) && decide (c.base % 64 = 0)

/-- The parameters `State.reset` takes: those of the conventions of 95_test_vectors.md, and BASE 0.
DESIGN CHOICE, unsafe (log entry 1): the spec leaves all three open. -/
def Config.reference : Config := { clkPerUs := 1, backend := .direct, base := 0 }

/-- FRAME_BITS (R6). -/
def frameBits : Nat := 24

/-- REPEAT (R6; 90_conflicts.md C1). -/
def repeatCount : Nat := 10

/-- The NO_PIN sentinel of LINE_SEL.OFFSET (R6, 10_state.md R36). -/
def noPin : BitVec 16 := 0xFFFF#16

/-- ID.VERSION (R6, 10_state.md R23). -/
def idVersion : BitVec 8 := 1#8

/-- The reset value of PULSE_LEN: 350 microseconds (R6, 10_state.md R35). -/
def defaultPulseLen : Word := 350#32

end Sys2Proof
end

