-- ==== Sys2Proof/Syntax.lean ====
section
/-! DEFINITION. The six commands of OOKTX (00_scope.md R2, 30_encoding.md R80 to R83), one constructor per row of the
opcode table, with the operand fields of R81 as they stand in the word. -/

namespace Sys2Proof

/-- A command with its operand fields (R81). A field may hold a value outside its domain (`Instr.wf`): such a command
completes with ILLEGAL_OPERAND (R86). -/
inductive Instr where
  /-- OPEN (40_line.md R107) -/
  | openCmd
  /-- CLOSE (40_line.md R108) -/
  | closeCmd
  /-- SET_LINE v (40_line.md R109): V = 0 low, 1 high -/
  | setLine (v : Level)
  /-- EMIT_PULSE h, l (41_pulse.md R125): high and low units -/
  | emitPulse (h l : BitVec 8)
  /-- EMIT_SYMBOL s (42_symbol.md R142): the SYM code -/
  | emitSymbol (sym : BitVec 2)
  /-- TRANSMIT (43_frame.md R153) -/
  | transmit
deriving DecidableEq, Repr

/-- The three symbols (42_symbol.md R140). -/
inductive Symbol where
  | zero
  | one
  | sync
deriving DecidableEq, Repr

end Sys2Proof
end

