-- ==== Sys2Proof/WellFormed.lean ====
section
/-! DEFINITION. When a command's operands lie in their domains (30_encoding.md R81, R86). -/

namespace Sys2Proof

/-- The operand domains of R81: EMIT_PULSE has H and L in 1..255, EMIT_SYMBOL has SYM in 0..2; the other operands
have no value outside their domain. A command that fails this completes with ILLEGAL_OPERAND (R86). -/
def Instr.wf : Instr → Bool
  | .openCmd => true
  | .closeCmd => true
  | .setLine _ => true
  | .emitPulse h l => decide (h ≠ 0#8) && decide (l ≠ 0#8)
  | .emitSymbol sym => decide (sym ≠ 3#2)
  | .transmit => true

end Sys2Proof
end

