-- ==== Sys2Proof/Decode.lean ====
section
/-! DEFINITION. The decoder of a CMD word (30_encoding.md R88), total on every 32-bit word, the encoder written from the
same format (R80), and the opcode map with its matches and masks (R83). -/

namespace Sys2Proof

/-- What the decoder of R88 answers for a word. -/
inductive Decoded where
  /-- a command with every operand in its domain -/
  | command (i : Instr)
  /-- ILLEGAL_OP: a reserved OP (R84) or a nonzero reserved field (R85) -/
  | illegalOp
  /-- ILLEGAL_OPERAND (R86): the word has the pattern of command `i` (R83) and an operand outside its domain -/
  | illegalOperand (i : Instr)
deriving DecidableEq, Repr

/-- `w[31:28]`, the OP field (R80). -/
def opField (w : Word) : BitVec 4 := w.extractLsb' 28 4

/-- The word's command by its pattern (R83), operand fields taken as they are (R82): none for a reserved OP or a
nonzero reserved field. -/
def commandOf (w : Word) : Option Instr :=
  if opField w = 0x1#4 then
    if w.extractLsb' 0 28 = 0#28 then some .openCmd else none
  else if opField w = 0x2#4 then
    if w.extractLsb' 0 28 = 0#28 then some .closeCmd else none
  else if opField w = 0x3#4 then
    if w.extractLsb' 1 27 = 0#27 then some (.setLine (w.getLsbD 0)) else none
  else if opField w = 0x4#4 then
    if w.extractLsb' 16 12 = 0#12 then some (.emitPulse (w.extractLsb' 8 8) (w.extractLsb' 0 8)) else none
  else if opField w = 0x5#4 then
    if w.extractLsb' 2 26 = 0#26 then some (.emitSymbol (w.extractLsb' 0 2)) else none
  else if opField w = 0x6#4 then
    if w.extractLsb' 0 28 = 0#28 then some .transmit else none
  else none

/-- The decoder of R88: ILLEGAL_OP before ILLEGAL_OPERAND (60_exceptions.md R173). -/
def decode (w : Word) : Decoded :=
  match commandOf w with
  | none => .illegalOp
  | some i => if i.wf then .command i else .illegalOperand i

/-- The word of a command, from the format of R80. -/
def encode : Instr → Word
  | .openCmd => 0x1#4 ++ 0#28
  | .closeCmd => 0x2#4 ++ 0#28
  | .setLine v => 0x3#4 ++ (0#27 ++ BitVec.ofBool v)
  | .emitPulse h l => 0x4#4 ++ (0#12 ++ (h ++ l))
  | .emitSymbol sym => 0x5#4 ++ (0#26 ++ sym)
  | .transmit => 0x6#4 ++ 0#28

/-- One row of the opcode map (R83): a word matches when `w &&& mask = pattern`. -/
structure OpcodeRow where
  mnemonic : String
  pattern : Word
  mask : Word
deriving DecidableEq, Repr

/-- The word has the row's pattern: `(w AND mask) = match` (R83). -/
def OpcodeRow.fits (r : OpcodeRow) (w : Word) : Bool := decide (w &&& r.mask = r.pattern)

/-- The row of R83's map a command belongs to. -/
def Instr.row : Instr → OpcodeRow
  | .openCmd => ⟨"OPEN", 0x10000000#32, 0xFFFFFFFF#32⟩
  | .closeCmd => ⟨"CLOSE", 0x20000000#32, 0xFFFFFFFF#32⟩
  | .setLine _ => ⟨"SET_LINE", 0x30000000#32, 0xFFFFFFFE#32⟩
  | .emitPulse _ _ => ⟨"EMIT_PULSE", 0x40000000#32, 0xFFFF0000#32⟩
  | .emitSymbol _ => ⟨"EMIT_SYMBOL", 0x50000000#32, 0xFFFFFFFC#32⟩
  | .transmit => ⟨"TRANSMIT", 0x60000000#32, 0xFFFFFFFF#32⟩

/-- The opcode map of R83. -/
def opcodeMap : List OpcodeRow :=
  [Instr.row .openCmd, Instr.row .closeCmd, Instr.row (.setLine false), Instr.row (.emitPulse 0#8 0#8),
   Instr.row (.emitSymbol 0#2), Instr.row .transmit]

/-- The command the decoder reads from the word `w` of `nbits` bits, bits above `nbits` zero. A command with an operand
outside its domain is given too: it is that command, and its execution completes with ILLEGAL_OPERAND (R86, and the
column ILLEGAL_OPERAND of 60_exceptions.md R172; log entry 4). -/
def decodeTableWord (nbits w : Nat) : Option Instr :=
  match decode (BitVec.ofNat 32 (w % 2 ^ nbits)) with
  | .command i => some i
  | .illegalOperand i => some i
  | .illegalOp => none

end Sys2Proof
end

