-- ==== Sys2Proof/Machine/State.lean ====
section
/-! DEFINITION. The state of OOKTX as plain data (10_state.md), with the inputs of the coming cycles and the outputs of
the last one (20_memory.md R68), the stop reasons, and the state after reset (70_reset_and_hazards.md R201). -/

namespace Sys2Proof.Machine

/-- Why a step stops with a fault. It never does: OOKTX "has no trap and no vector" (00_scope.md R11) and "steps every
cycle it is clocked" (60_exceptions.md R187), so the type has no constructor. Safe. -/
inductive Fault where
deriving DecidableEq, Repr

/-- Why a step has no meaning. -/
inductive Refusal where
  /-- Raised by an arm of `exec` for a command without a meaning; there is none in this model. Safe. -/
  | notModelled (mnemonic : String)
deriving DecidableEq, Repr

/-- The sequencer states of st.fsm (10_state.md R43). -/
inductive Fsm where
  /-- no command in flight -/
  | idle
  /-- waiting for the response to OPEN -/
  | wOpen
  /-- waiting for the response to RELEASE -/
  | wRelease
  /-- waiting for the response to LOOKUP -/
  | wLookup
  /-- waiting for the response to the SET of SET_LINE -/
  | wSetV
  /-- waiting for the response to the SET(1) that starts a high phase -/
  | wSetH
  /-- timing a high phase -/
  | tHigh
  /-- waiting for the response to the SET(0) that starts a low phase -/
  | wSetL
  /-- timing a low phase -/
  | tLow
deriving DecidableEq, Repr

/-- The command in flight or last accepted, st.op (10_state.md R44). -/
inductive OpKind where
  | none
  | openCmd
  | closeCmd
  | setLine
  | emitPulse
  | emitSymbol
  | transmit
deriving DecidableEq, Repr

/-- The result codes of STATUS.ERR (60_exceptions.md R171). Codes 9 to 15 are never produced (93 I13), so they have no
name here. -/
inductive Result where
  | ok
  | illegalOp
  | illegalOperand
  | notOpen
  | alreadyOpen
  | cfgPin
  | cfgPulse
  | range
  | line
deriving DecidableEq, Repr

/-- A request on the line port (40_line.md R100); `dev` and `off` are ACTIVE_LINE.DEV and ACTIVE_LINE.OFFSET. -/
inductive LineReq where
  | openLine (dev : BitVec 8) (off : BitVec 16)
  | releaseLine (dev : BitVec 8) (off : BitVec 16)
  | lookupLine (dev : BitVec 8) (off : BitVec 16)
  | setLine (v : Level)
deriving DecidableEq, Repr

/-- The KIND values of ERR_INFO (10_state.md R41), for the four kinds of request that can fail. -/
inductive ReqKind where
  | openLine
  | setLine
  | releaseLine
  | lookupLine
deriving DecidableEq, Repr

/-- The line port's response input in one cycle (40_line.md R100). -/
inductive Resp where
  | none
  | ok
  | err
deriving DecidableEq, Repr

/-- The width of a host access (20_memory.md R61): only `w32` is allowed. -/
inductive Width where
  | w8
  | w16
  | w32
  | w64
  | burst
deriving DecidableEq, Repr

/-- One host access, at a byte address of the host's address space (20_memory.md R60). A write carries the 32-bit data
word; the data of another width is never used (R61; log entry 13). -/
inductive Access where
  | read (width : Width) (addr : Nat)
  | write (width : Width) (addr : Nat) (data : Word)
deriving DecidableEq, Repr

/-- The sixteen registers of the window (10_state.md R22). -/
inductive Reg where
  | id
  | ctrl
  | status
  | cmd
  | code
  | pulseLen
  | lineSel
  | activePl
  | activeLine
  | frame
  | setcnt
  | errInfo
  | usCount
  | reserved34
  | reserved38
  | reserved3C
deriving DecidableEq, Repr

/-- The three inputs of one cycle (20_memory.md R68): reset, the line response, and at most one bus access. -/
structure CycleInput where
  rst : Bool
  resp : Resp
  bus : Option Access
deriving DecidableEq, Repr

/-- A cycle with no input at all: no reset, no response, no access. -/
def CycleInput.quiet : CycleInput := { rst := false, resp := .none, bus := none }

/-- The outputs of one cycle (20_memory.md R68), and the flag `completed` of R68. `irq` is computed from State
(`State.irq`, 10_state.md R51). -/
structure Outputs where
  /-- data of a read; `none` in a cycle with no read of the window (log entry 5) -/
  rdata : Option Word
  /-- the access got a bus error (R61, R62) -/
  busErr : Bool
  /-- the line request issued in the cycle (40_line.md R100) -/
  lreq : Option LineReq
  /-- `complete` was called in the cycle (60_exceptions.md R170) -/
  completed : Bool
deriving DecidableEq, Repr

/-- No output: what R201 gives for reset. -/
def Outputs.quiet : Outputs := { rdata := none, busErr := false, lreq := none, completed := false }

/-- The state of OOKTX. -/
structure State where
  /-- the open parameters (00_scope.md R7); no step changes them -/
  cfg : Config
  /-- CTRL.IE (R24) -/
  ie : Bool
  /-- STATUS.OPEN (R27) -/
  isOpen : Bool
  /-- STATUS.DONE (R28) -/
  done : Bool
  /-- STATUS.REJ (R29) -/
  rej : Bool
  /-- STATUS.ERR (R30) -/
  err : Result
  /-- STATUS.PHASE (R31): `true` is the low phase -/
  phase : Bool
  /-- STATUS.LINE_VALID (R32) -/
  lineValid : Bool
  /-- STATUS.LINE_LEVEL (R32) -/
  lineLevel : Level
  /-- STATUS.SYM_IDX (R31) -/
  symIdx : BitVec 5
  /-- STATUS.REP (R31) -/
  rep : BitVec 4
  /-- CODE (R34) -/
  code : Word
  /-- PULSE_LEN (R35) -/
  pulseLen : Word
  /-- LINE_SEL[23:0] (R36) -/
  lineSel : BitVec 24
  /-- ACTIVE_PL (R37) -/
  activePl : Word
  /-- ACTIVE_LINE[23:0] (R38) -/
  activeLine : BitVec 24
  /-- FRAME[23:0] (R39) -/
  frame : BitVec 24
  /-- SETCNT (R40) -/
  setcnt : Word
  /-- ERR_INFO (R41) -/
  errInfo : Word
  /-- US_COUNT (R42) -/
  usCount : Word
  /-- st.fsm (R43) -/
  fsm : Fsm
  /-- st.op (R44) -/
  op : OpKind
  /-- st.v (R45) -/
  v : Level
  /-- st.h (R46) -/
  h : BitVec 8
  /-- st.l (R46) -/
  l : BitVec 8
  /-- st.rem (R47), an unbounded natural number (41_pulse.md R121) -/
  rem : Nat
  /-- st.us_pre (R48) -/
  usPre : Nat
  /-- `cyc`, the number of the coming cycle (00_scope.md R11); not a register -/
  cyc : Nat
  /-- the outputs of the last cycle (20_memory.md R68) -/
  out : Outputs
  /-- the inputs of the coming cycles, earliest first; after the last one every cycle is quiet (log entry 2) -/
  inputs : List CycleInput
deriving DecidableEq, Repr

/-- The state of a block with parameters `c` after reset (70_reset_and_hazards.md R201), given the inputs of the cycles
to come. -/
def State.resetWith (c : Config) (inputs : List CycleInput) : State where
  cfg := c
  ie := false
  isOpen := false
  done := false
  rej := false
  err := .ok
  phase := false
  lineValid := false
  lineLevel := false
  symIdx := 0#5
  rep := 0#4
  code := 0#32
  pulseLen := defaultPulseLen
  lineSel := 0x00FFFF#24
  activePl := 0#32
  activeLine := 0x00FFFF#24
  frame := 0#24
  setcnt := 0#32
  errInfo := 0#32
  usCount := 0#32
  fsm := .idle
  op := .none
  v := false
  h := 0#8
  l := 0#8
  rem := 0
  usPre := c.clkPerUs
  cyc := 0
  out := .quiet
  inputs := inputs

/-- OOKTX right after reset (R201), with the reference parameters and no input placed (log entries 1, 2 and 9). -/
def State.reset : State := State.resetWith Config.reference []

/-- The inputs of the coming cycle. -/
def State.input (s : State) : CycleInput := s.inputs.headD .quiet

end Sys2Proof.Machine
end

