-- ==== Sys2Proof/Machine/Operands.lean ====
section
/-! DEFINITION. Operand forms and the values computed from them: the fields of LINE_SEL, the signed reading of PULSE_LEN
and the range check of CODE (00_scope.md R10, 30_encoding.md R82), the symbol mapper (42_symbol.md R140) and the
bit-serial encoder (43_frame.md R150). -/

namespace Sys2Proof.Machine

/-- OFFSET of LINE_SEL or ACTIVE_LINE: bits 15:0 (10_state.md R36, R38). -/
def lineOffset (x : BitVec 24) : BitVec 16 := x.extractLsb' 0 16

/-- DEV of LINE_SEL or ACTIVE_LINE: bits 23:16 (10_state.md R36, R38). -/
def lineDev (x : BitVec 24) : BitVec 8 := x.extractLsb' 16 8

/-- `s32(v)`: the word as a two's-complement number (00_scope.md R10). -/
def s32 (w : Word) : Int := w.toInt

/-- The pulse length is legal for OPEN: `1 <= s32(PULSE_LEN)` (40_line.md R107). -/
def pulseLenLegal (w : Word) : Bool := decide (1 ≤ s32 w)

/-- The code is legal for TRANSMIT: `0 <= s32(CODE) < 2^24` (43_frame.md R152). -/
def codeInRange (w : Word) : Bool := decide (0 ≤ s32 w) && decide (s32 w < 2 ^ frameBits)

/-- The symbol of a SYM code; none for the illegal code 3 (42_symbol.md R140). -/
def symbolOf (sym : BitVec 2) : Option Symbol :=
  if sym = 0#2 then some .zero
  else if sym = 1#2 then some .one
  else if sym = 2#2 then some .sync
  else none

/-- RATIO(symbol) = (high units, low units) (42_symbol.md R140). -/
def ratio : Symbol → BitVec 8 × BitVec 8
  | .zero => (1#8, 3#8)
  | .one => (3#8, 1#8)
  | .sync => (1#8, 31#8)

/-- `bitAt(i) = FRAME[23 - i]`, for i in 0..23 (43_frame.md R150). -/
def bitAt (frame : BitVec 24) (i : Nat) : Bool := frame.getLsbD (23 - i)

/-- `symAt(i)`, the symbol at index i of a repetition, for i in 0..24 (43_frame.md R150). -/
def symAt (frame : BitVec 24) (i : Nat) : Symbol :=
  if i = 24 then .sync else if bitAt frame i then .one else .zero

/-- The KIND value of ERR_INFO (10_state.md R41, 40_line.md R104). -/
def ReqKind.code : ReqKind → BitVec 3
  | .openLine => 1#3
  | .setLine => 2#3
  | .releaseLine => 3#3
  | .lookupLine => 4#3

/-- The register at word index `n` of the window, `4 * n` its byte offset (10_state.md R22). -/
def regAtIndex : Nat → Option Reg
  | 0 => some .id
  | 1 => some .ctrl
  | 2 => some .status
  | 3 => some .cmd
  | 4 => some .code
  | 5 => some .pulseLen
  | 6 => some .lineSel
  | 7 => some .activePl
  | 8 => some .activeLine
  | 9 => some .frame
  | 10 => some .setcnt
  | 11 => some .errInfo
  | 12 => some .usCount
  | 13 => some .reserved34
  | 14 => some .reserved38
  | 15 => some .reserved3C
  | _ => none

/-- The byte offset of a register in the window (10_state.md R22). -/
def Reg.offset : Reg → Nat
  | .id => 0x00
  | .ctrl => 0x04
  | .status => 0x08
  | .cmd => 0x0C
  | .code => 0x10
  | .pulseLen => 0x14
  | .lineSel => 0x18
  | .activePl => 0x1C
  | .activeLine => 0x20
  | .frame => 0x24
  | .setcnt => 0x28
  | .errInfo => 0x2C
  | .usCount => 0x30
  | .reserved34 => 0x34
  | .reserved38 => 0x38
  | .reserved3C => 0x3C

/-- Where a host access goes. -/
inductive Target where
  /-- outside the window: it does not reach OOKTX (20_memory.md R60) -/
  | outside
  /-- a width other than 32 bits, or a misaligned offset: bus error (R61, R62) -/
  | bad
  /-- an aligned 32-bit access to a register -/
  | reg (r : Reg)
deriving DecidableEq, Repr

/-- The window is chosen by the address of the first byte (log entry 6), then R61 and R62 check width and alignment. -/
def target (c : Config) (width : Width) (addr : Nat) : Target :=
  if addr < c.base then .outside
  else
    match regAtIndex ((addr - c.base) / 4) with
    | none => .outside
    | some r => if width = .w32 ∧ (addr - c.base) % 4 = 0 then .reg r else .bad

end Sys2Proof.Machine
end

