-- ==== Sys2Proof/Machine/Flags.lean ====
section
/-! DEFINITION. The status bits and the words read from the registers (10_state.md R23 to R32, R51). -/

namespace Sys2Proof.Machine

/-- The number of a result code (60_exceptions.md R171). -/
def Result.code : Result → BitVec 4
  | .ok => 0#4
  | .illegalOp => 1#4
  | .illegalOperand => 2#4
  | .notOpen => 3#4
  | .alreadyOpen => 4#4
  | .cfgPin => 5#4
  | .cfgPulse => 6#4
  | .range => 7#4
  | .line => 8#4

/-- The sequencer waits for a line response: one request is outstanding (10_state.md R43, R49). -/
def Fsm.waiting : Fsm → Bool
  | .wOpen => true
  | .wRelease => true
  | .wLookup => true
  | .wSetV => true
  | .wSetH => true
  | .wSetL => true
  | .idle => false
  | .tHigh => false
  | .tLow => false

/-- The sequencer times a phase (10_state.md R43). -/
def Fsm.timing : Fsm → Bool
  | .tHigh => true
  | .tLow => true
  | .idle => false
  | .wOpen => false
  | .wRelease => false
  | .wLookup => false
  | .wSetV => false
  | .wSetH => false
  | .wSetL => false

/-- STATUS.BUSY: st.fsm is not IDLE (10_state.md R26). -/
def State.busy (s : State) : Bool := decide (s.fsm ≠ .idle)

/-- The irq output: DONE AND IE (10_state.md R51, 60_exceptions.md R178). -/
def State.irq (s : State) : Bool := s.done && s.ie

/-- The ID register (10_state.md R23). -/
def idWord (c : Config) : Word :=
  0#7 ++ (BitVec.ofBool (decide (c.backend = .board)) ++
    (idVersion ++ (BitVec.ofNat 8 frameBits ++ BitVec.ofNat 8 repeatCount)))

/-- The CTRL register (10_state.md R24). -/
def ctrlWord (s : State) : Word := 0#31 ++ BitVec.ofBool s.ie

/-- The STATUS register (10_state.md R25), bits 31 to 0. -/
def statusWord (s : State) : Word :=
  0#4 ++ (s.rep ++ (0#3 ++ (s.symIdx ++ (0#5 ++ (BitVec.ofBool s.lineLevel ++ (BitVec.ofBool s.lineValid ++
    (BitVec.ofBool s.phase ++ (s.err.code ++ (BitVec.ofBool s.rej ++ (BitVec.ofBool s.done ++
      (BitVec.ofBool s.isOpen ++ BitVec.ofBool s.busy)))))))))))

/-- The value of a register (10_state.md R22 to R42): CMD and the reserved offsets read 0 (R33, 20_memory.md R64). -/
def State.readReg (s : State) : Reg → Word
  | .id => idWord s.cfg
  | .ctrl => ctrlWord s
  | .status => statusWord s
  | .cmd => 0#32
  | .code => s.code
  | .pulseLen => s.pulseLen
  | .lineSel => s.lineSel.zeroExtend 32
  | .activePl => s.activePl
  | .activeLine => s.activeLine.zeroExtend 32
  | .frame => s.frame.zeroExtend 32
  | .setcnt => s.setcnt
  | .errInfo => s.errInfo
  | .usCount => s.usCount
  | .reserved34 => 0#32
  | .reserved38 => 0#32
  | .reserved3C => 0#32

/-- The ERR_INFO word: {0b0000, LEVEL, KIND, DEV, OFFSET} (10_state.md R41, 40_line.md R104). -/
def errInfoWord (kind : ReqKind) (level : Level) (line : BitVec 24) : Word :=
  0#4 ++ (BitVec.ofBool level ++ (kind.code ++ (lineDev line ++ lineOffset line)))

end Sys2Proof.Machine
end

