-- ==== Sys2Proof/Machine/Ops.lean ====
section
/-! DEFINITION. The operations the meanings share: completing a command (60_exceptions.md R170, the hardware's form of
taking an exception, R175), requests on the line port (40_line.md R100), a line failure (R104), the phase timer
(41_pulse.md R120), the start of a pulse (R122) and of a line-driving command (40_line.md R106), the microsecond counter
(60_exceptions.md R181) and the register writes (10_state.md R24, R25, R34 to R36). -/

namespace Sys2Proof.Machine

/-- `complete(code)` (60_exceptions.md R170): records the result, sets DONE, returns to IDLE. There is no return from it
(R176): the host clears DONE or writes the next command. -/
def complete (r : Result) (s : State) : State :=
  { s with err := r, done := true, fsm := .idle, out := { s.out with completed := true } }

/-- What every accept does first (60_exceptions.md R170): DONE, ERR, the progress fields, SETCNT and ERR_INFO to 0. -/
def acceptClear (s : State) : State :=
  { s with
    done := false
    err := .ok
    rep := 0#4
    symIdx := 0#5
    phase := false
    setcnt := 0#32
    errInfo := 0#32 }

/-- `LineReq(kind, arg)` (40_line.md R100): puts the request on the line port in the current cycle. -/
def lineReq (q : LineReq) (s : State) : State := { s with out := { s.out with lreq := some q } }

/-- `issueSet(v)` (40_line.md R100): a SET request, counted in SETCNT. -/
def issueSet (v : Level) (s : State) : State :=
  { s with setcnt := s.setcnt + 1#32, out := { s.out with lreq := some (.setLine v) } }

/-- A SET(v) was answered OK (40_line.md R103). -/
def recordLevel (v : Level) (s : State) : State := { s with lineLevel := v, lineValid := true }

/-- `lineFail(kind, level)` (40_line.md R104): the attribution in ERR_INFO, then `complete(LINE)`. -/
def lineFail (kind : ReqKind) (level : Level) (s : State) : State :=
  complete .line { s with errInfo := errInfoWord kind level s.activeLine }

/-- `startPhase(units)` (41_pulse.md R120): the exact product, no wrap. -/
def startPhase (units : BitVec 8) (s : State) : State :=
  { s with rem := units.toNat * s.activePl.toNat * s.cfg.clkPerUs }

/-- `startPulse(h, l)` (41_pulse.md R122). -/
def startPulse (h l : BitVec 8) (s : State) : State :=
  issueSet true { s with h := h, l := l, phase := false, fsm := .wSetH }

/-- `firstAction(op)` (40_line.md R106). -/
def firstAction (op : OpKind) (s : State) : State :=
  if op = .setLine then issueSet s.v { s with fsm := .wSetV } else startPulse s.h s.l s

/-- `begin(op)` (40_line.md R106): a LOOKUP first on a BOARD block. -/
def beginCommand (op : OpKind) (s : State) : State :=
  match s.cfg.backend with
  | .board => lineReq (.lookupLine (lineDev s.activeLine) (lineOffset s.activeLine)) { s with op := op, fsm := .wLookup }
  | .direct => firstAction op { s with op := op }

/-- OPEN and LINE_VALID to 0, as CLOSE does (40_line.md R108). -/
def closeBlock (s : State) : State := { s with isOpen := false, lineValid := false }

/-- Part 1 of a cycle: `usTick` (60_exceptions.md R181), and the model's cycle number (00_scope.md R11). -/
def tick (s : State) : State :=
  { s with
    usPre := if s.usPre = 1 then s.cfg.clkPerUs else s.usPre - 1
    usCount := if s.usPre = 1 then s.usCount + 1#32 else s.usCount
    cyc := s.cyc + 1 }

/-- A rejected CMD write (60_exceptions.md R177): only REJ changes. -/
def reject (s : State) : State := { s with rej := true }

/-- A host write to STATUS (10_state.md R25, 20_memory.md R68): bit 2 clears DONE unless a command completed in this
cycle, bit 3 clears REJ. -/
def writeStatus (w : Word) (s : State) : State :=
  { s with
    done := if w.getLsbD 2 && !s.out.completed then false else s.done
    rej := if w.getLsbD 3 then false else s.rej }

/-- A host write to a register other than CMD and STATUS: CTRL, CODE, PULSE_LEN and LINE_SEL store (10_state.md R24, R34
to R36); read-only and reserved registers ignore it (20_memory.md R64, R65). -/
def storeReg (r : Reg) (w : Word) (s : State) : State :=
  match r with
  | .ctrl => { s with ie := w.getLsbD 0 }
  | .code => { s with code := w }
  | .pulseLen => { s with pulseLen := w }
  | .lineSel => { s with lineSel := w.extractLsb' 0 24 }
  | .id => s
  | .status => s
  | .cmd => s
  | .activePl => s
  | .activeLine => s
  | .frame => s
  | .setcnt => s
  | .errInfo => s
  | .usCount => s
  | .reserved34 => s
  | .reserved38 => s
  | .reserved3C => s

/-- A bus error (20_memory.md R61, R62): a read returns 0, and no state changes. -/
def busError (a : Access) (s : State) : State :=
  match a with
  | .read _ _ => { s with out := { s.out with busErr := true, rdata := some 0#32 } }
  | .write _ _ _ => { s with out := { s.out with busErr := true } }

end Sys2Proof.Machine
end

