-- ==== Sys2Proof/Machine/Frame.lean ====
section
/-! DEFINITION. TRANSMIT (43_frame.md R153): the accept part as a meaning, and the advance to the next symbol (R154). -/

namespace Sys2Proof.Machine

/-- TRANSMIT (R153): the range check before the open check (60_exceptions.md R173), then the code into FRAME and the
first symbol's pulse. -/
def transmitAccept (s : State) : State :=
  if !codeInRange s.code then complete .range s
  else if !s.isOpen then complete .notOpen s
  else
    let frame := s.code.extractLsb' 0 24
    let r := ratio (symAt frame 0)
    beginCommand .transmit { s with frame := frame, h := r.1, l := r.2 }

/-- The meaning of TRANSMIT in its accept cycle (R153, 60_exceptions.md R170). -/
def execTransmit (s : State) : Host.Outcome State Fault Refusal := .next (transmitAccept (acceptClear s))

/-- SYM_IDX and REP of the next symbol (R154). -/
def nextSymbol (s : State) : State :=
  { s with
    symIdx := if s.symIdx = 24#5 then 0#5 else s.symIdx + 1#5
    rep := if s.symIdx = 24#5 then s.rep + 1#4 else s.rep }

/-- The pulse of the symbol at SYM_IDX (R154). -/
def startSymbol (s : State) : State :=
  startPulse (ratio (symAt s.frame s.symIdx.toNat)).1 (ratio (symAt s.frame s.symIdx.toNat)).2 s

/-- `advance()` (R154): after the tenth SYNC the command is done, else the next symbol's pulse starts in this cycle. -/
def advance (s : State) : State :=
  if s.symIdx = 24#5 ∧ s.rep = 9#4 then complete .ok s else startSymbol (nextSymbol s)

end Sys2Proof.Machine
end

