-- ==== Sys2Proof/Machine/Lifecycle.lean ====
section
/-! DEFINITION. OPEN and CLOSE (40_line.md R107, R108): the accept parts as meanings, and the response parts. -/

namespace Sys2Proof.Machine

/-- OPEN (R107): the three checks in order, then the active copies, then the OPEN request (DIRECT) or open at once
(BOARD). -/
def openAccept (s : State) : State :=
  if s.isOpen then complete .alreadyOpen s
  else if lineOffset s.lineSel = noPin then complete .cfgPin s
  else if !pulseLenLegal s.pulseLen then complete .cfgPulse s
  else
    let s1 := { s with activePl := s.pulseLen, activeLine := s.lineSel, op := .openCmd }
    match s.cfg.backend with
    | .direct => lineReq (.openLine (lineDev s1.activeLine) (lineOffset s1.activeLine)) { s1 with fsm := .wOpen }
    | .board => complete .ok { s1 with isOpen := true }

/-- The meaning of OPEN in its accept cycle (R107, 60_exceptions.md R170). -/
def execOpen (s : State) : Host.Outcome State Fault Refusal := .next (openAccept (acceptClear s))

/-- `onResponse(W_OPEN, OK)` (R107). -/
def openAnswered (s : State) : State := complete .ok { s with isOpen := true }

/-- CLOSE (R108): nothing to release when closed; a RELEASE request (DIRECT) or closed at once (BOARD). -/
def closeAccept (s : State) : State :=
  if !s.isOpen then complete .ok s
  else
    let s1 := { s with op := .closeCmd }
    match s.cfg.backend with
    | .direct => lineReq (.releaseLine (lineDev s1.activeLine) (lineOffset s1.activeLine)) { s1 with fsm := .wRelease }
    | .board => complete .ok (closeBlock s1)

/-- The meaning of CLOSE in its accept cycle (R108, 60_exceptions.md R170). -/
def execClose (s : State) : Host.Outcome State Fault Refusal := .next (closeAccept (acceptClear s))

/-- `onResponse(W_RELEASE, OK)` (R108). -/
def releaseAnswered (s : State) : State := complete .ok (closeBlock s)

/-- `onResponse(W_RELEASE, ERR)` (R108): the block is closed in that case too. -/
def releaseFailed (s : State) : State := lineFail .releaseLine false (closeBlock s)

end Sys2Proof.Machine
end

