-- ==== Sys2Proof/Machine/Line.lean ====
section
/-! DEFINITION. SET_LINE (40_line.md R109): the accept part as a meaning, and the response part. -/

namespace Sys2Proof.Machine

/-- SET_LINE v (R109). -/
def setLineAccept (v : Level) (s : State) : State :=
  if !s.isOpen then complete .notOpen s else beginCommand .setLine { s with v := v }

/-- The meaning of SET_LINE in its accept cycle (R109, 60_exceptions.md R170). -/
def execSetLine (v : Level) (s : State) : Host.Outcome State Fault Refusal := .next (setLineAccept v (acceptClear s))

/-- `onResponse(W_SETV, OK)` (R109). -/
def setLineAnswered (s : State) : State := complete .ok (recordLevel s.v s)

end Sys2Proof.Machine
end

