-- ==== Sys2Proof/Machine/Pulse.lean ====
section
/-! DEFINITION. EMIT_PULSE (41_pulse.md R125): the accept part as a meaning, and the pulse sub-sequence of R122 up to the
end of its low phase. -/

namespace Sys2Proof.Machine

/-- EMIT_PULSE h, l (R125), the operand domains of 30_encoding.md R86 first (60_exceptions.md R173). -/
def emitPulseAccept (h l : BitVec 8) (s : State) : State :=
  if h = 0#8 ∨ l = 0#8 then complete .illegalOperand s
  else if !s.isOpen then complete .notOpen s
  else beginCommand .emitPulse { s with h := h, l := l }

/-- The meaning of EMIT_PULSE in its accept cycle (R125, 60_exceptions.md R170). -/
def execEmitPulse (h l : BitVec 8) (s : State) : Host.Outcome State Fault Refusal :=
  .next (emitPulseAccept h l (acceptClear s))

/-- `onResponse(W_SETH, OK)` (R122). -/
def highAnswered (s : State) : State := startPhase s.h { recordLevel true s with fsm := .tHigh }

/-- `onExpire(T_HIGH)` (R122). -/
def highExpired (s : State) : State := issueSet false { s with phase := true, fsm := .wSetL }

/-- `onResponse(W_SETL, OK)` (R122). -/
def lowAnswered (s : State) : State := startPhase s.l { recordLevel false s with fsm := .tLow }

end Sys2Proof.Machine
end

