-- ==== Sys2Proof/Machine/Symbols.lean ====
section
/-! DEFINITION. EMIT_SYMBOL (42_symbol.md R142): the accept part as a meaning. -/

namespace Sys2Proof.Machine

/-- EMIT_SYMBOL s (R142): the units are RATIO(SYM); SYM = 3 is illegal (30_encoding.md R86). -/
def emitSymbolAccept (sym : BitVec 2) (s : State) : State :=
  match symbolOf sym with
  | none => complete .illegalOperand s
  | some y =>
    if !s.isOpen then complete .notOpen s
    else beginCommand .emitSymbol { s with h := (ratio y).1, l := (ratio y).2 }

/-- The meaning of EMIT_SYMBOL in its accept cycle (R142, 60_exceptions.md R170). -/
def execEmitSymbol (sym : BitVec 2) (s : State) : Host.Outcome State Fault Refusal :=
  .next (emitSymbolAccept sym (acceptClear s))

end Sys2Proof.Machine
end

