-- ==== Sys2Proof/Machine/Sequencer.lean ====
section
/-! DEFINITION. Part 2 of a cycle (20_memory.md R68): a line response in a waiting state, the phase timer in a timing
state, nothing in IDLE. -/

namespace Sys2Proof.Machine

/-- `pulseDone()` (41_pulse.md R122), at the end of a low phase. No other command reaches a low phase; there the model
stays in it (log entry 8). -/
def pulseDone (s : State) : State :=
  match s.op with
  | .emitPulse => complete .ok s
  | .emitSymbol => complete .ok s
  | .transmit => advance s
  | .none => s
  | .openCmd => s
  | .closeCmd => s
  | .setLine => s

/-- `onResponse(st.fsm, OK)` (40_line.md R106 to R109, 41_pulse.md R122); not called outside the W_ states. -/
def onOk (s : State) : State :=
  match s.fsm with
  | .wOpen => openAnswered s
  | .wRelease => releaseAnswered s
  | .wLookup => firstAction s.op s
  | .wSetV => setLineAnswered s
  | .wSetH => highAnswered s
  | .wSetL => lowAnswered s
  | .idle => s
  | .tHigh => s
  | .tLow => s

/-- `onResponse(st.fsm, ERR)` (40_line.md R104 to R109, 41_pulse.md R122, R123); not called outside the W_ states. -/
def onErr (s : State) : State :=
  match s.fsm with
  | .wOpen => lineFail .openLine false s
  | .wRelease => releaseFailed s
  | .wLookup => lineFail .lookupLine false s
  | .wSetV => lineFail .setLine s.v s
  | .wSetH => lineFail .setLine true s
  | .wSetL => lineFail .setLine false s
  | .idle => s
  | .tHigh => s
  | .tLow => s

/-- A response in a waiting state. -/
def onResponse (resp : Resp) (s : State) : State :=
  match resp with
  | .none => s
  | .ok => onOk s
  | .err => onErr s

/-- `onExpire(st.fsm)` (41_pulse.md R122). -/
def onExpire (s : State) : State := if s.fsm = .tHigh then highExpired s else pulseDone s

/-- One cycle of the phase timer (20_memory.md R68, 41_pulse.md R120). -/
def countDown (s : State) : State :=
  let s1 := { s with rem := s.rem - 1 }
  if s1.rem = 0 then onExpire s1 else s1

/-- Part 2 of the cycle (20_memory.md R68); a response outside the W_ states is ignored (40_line.md R102). -/
def sequencer (resp : Resp) (s : State) : State :=
  if s.fsm.waiting then onResponse resp s else if s.fsm.timing then countDown s else s

end Sys2Proof.Machine
end

