-- ==== Sys2Proof/Machine/Dispatch.lean ====
section
/-! DEFINITION. The meaning of every command in the cycle it is accepted (60_exceptions.md R170), one arm each. A CMD write
that finds the block busy never comes here: it is rejected and not decoded (R177; log entry 3). -/

namespace Sys2Proof.Machine

def exec (i : Instr) (s : State) : Host.Outcome State Fault Refusal :=
  match i with
  | .openCmd => Sys2Proof.Machine.execOpen s
  | .closeCmd => Sys2Proof.Machine.execClose s
  | .setLine v => Sys2Proof.Machine.execSetLine v s
  | .emitPulse h l => Sys2Proof.Machine.execEmitPulse h l s
  | .emitSymbol sym => Sys2Proof.Machine.execEmitSymbol sym s
  | .transmit => Sys2Proof.Machine.execTransmit s

end Sys2Proof.Machine
end

