-- ==== Sys2Proof/Machine/Cycle.lean ====
section
/-! DEFINITION. The cycle function (20_memory.md R68): reset, or parts 1 to 3; and the placing of a command in the coming
cycle. -/

namespace Sys2Proof.Machine

/-- `accept(w)` (60_exceptions.md R170): the decoded command's meaning, or ILLEGAL_OP. A command with an operand outside
its domain completes with ILLEGAL_OPERAND by its own meaning. -/
def accept (w : Word) (s : State) : Host.Outcome State Fault Refusal :=
  match decode w with
  | .command i => exec i s
  | .illegalOperand i => exec i s
  | .illegalOp => .next (complete .illegalOp (acceptClear s))

/-- An aligned 32-bit write to register `r` (20_memory.md R68 part 3). -/
def writeReg (r : Reg) (w : Word) (s : State) : Host.Outcome State Fault Refusal :=
  match r with
  | .cmd => if s.fsm = .idle then accept w s else .next (reject s)
  | .status => .next (writeStatus w s)
  | r => .next (storeReg r w s)

/-- Part 3 of the cycle (20_memory.md R68), on the state `s` after part 2; a read returns the value in `pre`, the state
at the start of the cycle (R69). -/
def busPart (pre : State) (bus : Option Access) (s : State) : Host.Outcome State Fault Refusal :=
  match bus with
  | none => .next s
  | some (.read width addr) =>
    match target s.cfg width addr with
    | .outside => .next s
    | .bad => .next (busError (.read width addr) s)
    | .reg r => .next { s with out := { s.out with rdata := some (pre.readReg r) } }
  | some (.write width addr w) =>
    match target s.cfg width addr with
    | .outside => .next s
    | .bad => .next (busError (.write width addr w) s)
    | .reg r => writeReg r w s

/-- The state after parts 1 and 2 of a cycle that starts in `s` (its input taken off the list) with response `resp`. -/
def midCycle (resp : Resp) (s : State) : State := sequencer resp (tick { s with out := .quiet })

/-- What a bus access returns in a cycle with rst = 1 (70_reset_and_hazards.md R200): a read of the window returns 0, with
no bus error. -/
def resetOutputs (c : Config) (bus : Option Access) : Outputs :=
  match bus with
  | some (.read width addr) => if target c width addr = .outside then .quiet else { Outputs.quiet with rdata := some 0#32 }
  | some (.write _ _ _) => .quiet
  | none => .quiet

/-- A cycle with rst = 1 (70_reset_and_hazards.md R200). -/
def resetCycle (bus : Option Access) (s : State) : State :=
  { State.resetWith s.cfg s.inputs with out := resetOutputs s.cfg bus }

/-- The cycle function (20_memory.md R68). -/
def cycle (inp : CycleInput) (s : State) : Host.Outcome State Fault Refusal :=
  if inp.rst then .next (resetCycle inp.bus s) else busPart s inp.bus (midCycle inp.resp s)

/-- The host writes the 32-bit word `w` to CMD. -/
def cmdWrite (c : Config) (w : Word) : Access := .write .w32 (c.base + Reg.offset .cmd) w

/-- The coming cycle is one with no reset in which the host writes `w` to CMD and finds the sequencer IDLE, so that `w` is
accepted (log entry 9). -/
def placeCommand (w : Word) (s : State) : State :=
  { s with
    fsm := .idle
    inputs := { rst := false, resp := s.input.resp, bus := some (cmdWrite s.cfg w) } :: s.inputs.tail }

end Sys2Proof.Machine
end

