-- ==== Sys2Proof/Machine/Step.lean ====
section
/-! DEFINITION. One step is one clock cycle (00_scope.md R8): the cycle function on the coming cycle's inputs. -/

namespace Sys2Proof.Machine

/-- One clock cycle (00_scope.md R8, 20_memory.md R68). -/
def step (s : State) : Host.Outcome State Fault Refusal := cycle s.input { s with inputs := s.inputs.tail }

/-- `s` with the command word `w` presented to CMD in the coming cycle (log entry 9). -/
def State.withFetchWord (s : State) (nbits w : Nat) : State := placeCommand (BitVec.ofNat 32 (w % 2 ^ nbits)) s

end Sys2Proof.Machine
end

