-- ==== Sys2Proof/Safety.lean ====
section
/-! DEFINITION. The terms statements use: inputs of a cycle, what an access writes, infinite runs, waiting cycles, what a
host cannot touch, and the invariant of the machine. -/

namespace Sys2Proof

/-- The pulse-length units a command's phases last in all (70_reset_and_hazards.md R211). -/
def Instr.units : Instr → Nat
  | .openCmd => 0
  | .closeCmd => 0
  | .setLine _ => 0
  | .emitPulse h l => h.toNat + l.toNat
  | .emitSymbol sym => if sym = 2#2 then 32 else 4
  | .transmit => 1280

/-- How many SET requests a command that ends with OK has issued (43_frame.md R151, 10_state.md R40). -/
def Instr.setRequests : Instr → Nat
  | .openCmd => 0
  | .closeCmd => 0
  | .setLine _ => 1
  | .emitPulse _ _ => 2
  | .emitSymbol _ => 2
  | .transmit => 500

end Sys2Proof

namespace Sys2Proof.Machine

/-- `s` with the inputs `inp` in the coming cycle. -/
def State.withInput (inp : CycleInput) (s : State) : State := { s with inputs := inp :: s.inputs.tail }

/-- A cycle with no reset, response `resp` and bus access `bus`. -/
def CycleInput.of (resp : Resp) (bus : Option Access) : CycleInput := { rst := false, resp := resp, bus := bus }

/-- An aligned 32-bit read of register `r`. -/
def readOf (c : Config) (r : Reg) : Access := .read .w32 (c.base + r.offset)

/-- An aligned 32-bit write of `w` to register `r`. -/
def writeOf (c : Config) (r : Reg) (w : Word) : Access := .write .w32 (c.base + r.offset) w

/-- The word an access writes to CMD, if it writes CMD. -/
def cmdWritten (c : Config) (bus : Option Access) : Option Word :=
  match bus with
  | some (.write width addr w) => if target c width addr = .reg .cmd then some w else none
  | some (.read _ _) => none
  | none => none

/-- The register an access reads, if it is an aligned 32-bit read of one. -/
def regRead (c : Config) (bus : Option Access) : Option Reg :=
  match bus with
  | some (.read width addr) =>
    match target c width addr with
    | .reg r => some r
    | .outside => none
    | .bad => none
  | some (.write _ _ _) => none
  | none => none

/-- What every cycle with no reset does whatever the inputs are: the microsecond counter and the cycle number move on
(part 1 of 20_memory.md R68), the outputs are quiet until something drives them, and the input is used up. -/
def State.ticked (s : State) : State := { tick s with out := .quiet, inputs := s.inputs.tail }

/-- The state after parts 1 and 2 of the coming cycle, with response `resp` (20_memory.md R68): what the bus access of
part 3 finds. -/
def State.beforeBus (resp : Resp) (s : State) : State := midCycle resp { s with inputs := s.inputs.tail }

/-- An infinite run, one state at the start of every cycle. -/
def Trace (t : Nat → State) : Prop := ∀ k, step (t k) = .next (t (k + 1))

/-- How many of the `n` cycles from cycle `a` on the sequencer spends waiting for the line. A request issued in cycle
`c` and answered in cycle `c + λ` is waited for in the cycles `c + 1` to `c + λ`, so over a command this is the sum of the
latencies λ of its requests (40_line.md R101). -/
def waitCycles (t : Nat → State) (a : Nat) : Nat → Nat
  | 0 => 0
  | n + 1 => waitCycles t a n + (if (t (a + n)).fsm.waiting then 1 else 0)

/-- Cycle `k` of the run is one in which the command in flight goes on or ends with no reset and no line error. -/
def RunsOn (t : Nat → State) (k : Nat) : Prop :=
  (t k).fsm ≠ .idle ∧ (t k).input.rst = false ∧ (t k).input.resp ≠ .err

/-- In cycle 0 of the run the host writes `w` to CMD of an idle block, with no reset. -/
def CommandAtStart (t : Nat → State) (w : Word) : Prop :=
  (t 0).fsm = .idle ∧ (t 0).input.rst = false ∧ cmdWritten (t 0).cfg (t 0).input.bus = some w

/-- The state without what a host can write or read while a command runs, and without the inputs to come: the parameters,
the sequencer and its timer, the progress, the results, the active configuration, the line record and the line request. -/
def State.commandView (s : State) : State :=
  { s with
    ie := false
    rej := false
    done := false
    code := 0#32
    pulseLen := 0#32
    lineSel := 0#24
    out := { s.out with rdata := none, busErr := false }
    inputs := [] }

/-- The command in flight is one that sends pulses. -/
def OpKind.pulses : OpKind → Bool
  | .emitPulse => true
  | .emitSymbol => true
  | .transmit => true
  | .none => false
  | .openCmd => false
  | .closeCmd => false
  | .setLine => false

/-- The progress fields are at the start (10_state.md R31). -/
def State.atStart (s : State) : Prop := s.rep = 0#4 ∧ s.symIdx = 0#5 ∧ s.phase = false

/-- The number of the symbol in flight, `k = 25 * REP + SYM_IDX` (43_frame.md R151). -/
def State.symbolNumber (s : State) : Nat := 25 * s.rep.toNat + s.symIdx.toNat

/-- The active pulse length is legal (10_state.md R37). -/
def State.plLegal (s : State) : Prop := 1 ≤ s.activePl.toNat ∧ s.activePl.toNat ≤ 2 ^ 31 - 1

/-- The unit counts of the pulse in flight are those its command gives (10_state.md R46). -/
def State.unitsFit (s : State) : Prop :=
  1 ≤ s.h.toNat ∧ 1 ≤ s.l.toNat ∧
  (s.op = .emitSymbol → ∃ y, (s.h, s.l) = ratio y) ∧
  (s.op = .transmit → (s.h, s.l) = ratio (symAt s.frame s.symIdx.toNat))

/-- A pulse is being sent: OOKTX is open, the command is one that sends pulses, and only TRANSMIT moves REP and SYM_IDX
(10_state.md R31). -/
def State.pulsing (s : State) : Prop :=
  s.isOpen = true ∧ s.op.pulses = true ∧ s.unitsFit ∧ (s.op ≠ .transmit → s.rep = 0#4 ∧ s.symIdx = 0#5)

/-- What holds in each sequencer state (10_state.md R31, R37, R40, R43, R44, R46, R47; 40_line.md R105, R110;
43_frame.md R151). -/
def State.fsmFits (s : State) : Prop :=
  match s.fsm with
  | .idle => True
  | .wOpen =>
    s.op = .openCmd ∧ s.cfg.backend = .direct ∧ s.isOpen = false ∧ s.plLegal ∧ s.setcnt = 0#32 ∧ s.atStart
  | .wRelease => s.op = .closeCmd ∧ s.cfg.backend = .direct ∧ s.isOpen = true ∧ s.setcnt = 0#32 ∧ s.atStart
  | .wLookup =>
    s.cfg.backend = .board ∧ s.isOpen = true ∧ (s.op = .setLine ∨ s.pulsing) ∧ s.setcnt = 0#32 ∧ s.atStart
  | .wSetV => s.op = .setLine ∧ s.isOpen = true ∧ s.setcnt = 1#32 ∧ s.atStart
  | .wSetH => s.pulsing ∧ s.phase = false ∧ s.setcnt.toNat = 2 * s.symbolNumber + 1
  | .tHigh =>
    s.pulsing ∧ s.phase = false ∧ s.setcnt.toNat = 2 * s.symbolNumber + 1 ∧
    s.lineValid = true ∧ s.lineLevel = true ∧
    1 ≤ s.rem ∧ s.rem ≤ s.h.toNat * s.activePl.toNat * s.cfg.clkPerUs
  | .wSetL =>
    s.pulsing ∧ s.phase = true ∧ s.setcnt.toNat = 2 * s.symbolNumber + 2 ∧
    s.lineValid = true ∧ s.lineLevel = true
  | .tLow =>
    s.pulsing ∧ s.phase = true ∧ s.setcnt.toNat = 2 * s.symbolNumber + 2 ∧
    s.lineValid = true ∧ s.lineLevel = false ∧
    1 ≤ s.rem ∧ s.rem ≤ s.l.toNat * s.activePl.toNat * s.cfg.clkPerUs

/-- The invariant of OOKTX: what 10_state.md says always holds of the registers and the hidden state. -/
structure State.Inv (s : State) : Prop where
  /-- the parameters lie in their domains (00_scope.md R7) -/
  cfgWf : s.cfg.wf = true
  /-- st.us_pre (10_state.md R48, 60_exceptions.md R181) -/
  usPre : s.usPre = s.cfg.clkPerUs - s.cyc % s.cfg.clkPerUs
  /-- US_COUNT counts microseconds since reset (60_exceptions.md R181) -/
  usCount : s.usCount = BitVec.ofNat 32 (s.cyc / s.cfg.clkPerUs)
  /-- REP 10..15 never occurs (10_state.md R31) -/
  rep : s.rep.toNat ≤ 9
  /-- SYM_IDX 25..31 never occurs (10_state.md R31) -/
  symIdx : s.symIdx.toNat ≤ 24
  /-- while open, 1 <= ACTIVE_PL <= 2^31-1 (10_state.md R37) -/
  activePl : s.isOpen = true → s.plLegal
  /-- LINE_VALID = 1 implies OPEN = 1 (40_line.md R110) -/
  lineValid : s.lineValid = true → s.isOpen = true
  /-- no command issues more than 500 SET requests (10_state.md R40) -/
  setcnt : s.setcnt.toNat ≤ 500
  /-- while BUSY, DONE and ERR read 0 (10_state.md R28, R30) and ERR_INFO is 0 (R41) -/
  busy : s.fsm ≠ .idle → s.done = false ∧ s.err = .ok ∧ s.errInfo = 0#32
  /-- with the result LINE, ERR_INFO names the failing request of the active line (10_state.md R41) -/
  errLine : s.err = .line →
    ∃ kind level, s.errInfo = errInfoWord kind level s.activeLine ∧ (kind ≠ .setLine → level = false)
  /-- with any other result ERR_INFO is 0 (60_exceptions.md R174) -/
  errOther : s.err ≠ .line → s.errInfo = 0#32
  /-- the sequencer state fits the rest -/
  fsm : s.fsmFits

end Sys2Proof.Machine
end

