-- ==== Sys2Proof/Certificates/Slice0/Obligations.lean ====
section
/-! DEFINITION. The statements about OOKTX that the provers prove. Each docstring names the rule of spec/ it rests on. In
the statements about one cycle, `s.beforeBus resp` is the state after parts 1 and 2 of the coming cycle (20_memory.md
R68), and `s.ticked` is `s` with only the counters moved on (part 1), outputs quiet. -/

open Sys2Proof Sys2Proof.Machine

/-! ## Encoding -/

/-- Every command's word decodes to that command: to the command itself when its operands lie in their domains, and to
ILLEGAL_OPERAND of that command otherwise (30_encoding.md R80, R82, R86, R88). -/
def Obligations.DecodeOfEncode : Prop :=
  ∀ i : Instr, decode (encode i) = if i.wf then .command i else .illegalOperand i

/-- Each command word has one meaning: a word that decodes to a command is that command's word (R80, R88). -/
def Obligations.EncodeOfDecode : Prop :=
  ∀ (w : Word) (i : Instr), decode w = .command i ∨ decode w = .illegalOperand i → encode i = w

/-- The opcode map of R83 decides the decoding: a word decodes to a command exactly when it has that command's pattern,
to ILLEGAL_OP exactly when it has no pattern of the map, and no word has two patterns. -/
def Obligations.OpcodeMapDecidesDecoding : Prop :=
  ∀ w : Word,
    (decode w = .illegalOp ↔ ∀ r ∈ opcodeMap, r.fits w = false) ∧
    (∀ i : Instr, decode w = .command i ∨ decode w = .illegalOperand i → i.row.fits w = true) ∧
    (∀ r ∈ opcodeMap, ∀ r' ∈ opcodeMap, r.fits w = true → r'.fits w = true → r = r')

/-- Words written out from the patterns of R83 (and the vectors of 95_test_vectors.md section 2) decode to their
commands. -/
def Obligations.SampleWordsDecode : Prop :=
  decode 0x10000000#32 = .command .openCmd ∧
  decode 0x20000000#32 = .command .closeCmd ∧
  decode 0x30000001#32 = .command (.setLine true) ∧
  decode 0x40000301#32 = .command (.emitPulse 3#8 1#8) ∧
  decode 0x50000002#32 = .command (.emitSymbol 2#2) ∧
  decode 0x60000000#32 = .command .transmit ∧
  decode 0x00000000#32 = .illegalOp ∧
  decode 0x40100000#32 = .illegalOp ∧
  decode 0x50000007#32 = .illegalOp ∧
  decode 0x40000100#32 = .illegalOperand (.emitPulse 1#8 0#8) ∧
  decode 0x50000003#32 = .illegalOperand (.emitSymbol 3#2)

/-- A CMD word with a reserved OP (R84), or with a defined OP and a nonzero reserved field (R85), completes in its accept
cycle with ILLEGAL_OP, issues no line request, and changes nothing but the accept and completion updates of R170. -/
def Obligations.ReservedWordsGiveIllegalOp : Prop :=
  ∀ (s : State) (resp : Resp) (w : Word),
    (w.extractLsb' 28 4 = 0#4 ∨ 7 ≤ (w.extractLsb' 28 4).toNat ∨
     ((w.extractLsb' 28 4 = 1#4 ∨ w.extractLsb' 28 4 = 2#4 ∨ w.extractLsb' 28 4 = 6#4) ∧ w.extractLsb' 0 28 ≠ 0#28) ∨
     (w.extractLsb' 28 4 = 3#4 ∧ w.extractLsb' 1 27 ≠ 0#27) ∨
     (w.extractLsb' 28 4 = 4#4 ∧ w.extractLsb' 16 12 ≠ 0#12) ∨
     (w.extractLsb' 28 4 = 5#4 ∧ w.extractLsb' 2 26 ≠ 0#26)) →
    (s.beforeBus resp).fsm = .idle →
    (s.beforeBus resp).out.lreq = none ∧
    step (s.withInput (.of resp (some (writeOf s.cfg .cmd w)))) =
      .next { s.beforeBus resp with
        done := true, err := .illegalOp, rep := 0#4, symIdx := 0#5, phase := false, setcnt := 0#32, errInfo := 0#32
        fsm := .idle, out := { (s.beforeBus resp).out with completed := true } }

/-- EMIT_SYMBOL with SYM = 3 and EMIT_PULSE with H = 0 or L = 0, their reserved fields zero, complete in their accept
cycle with ILLEGAL_OPERAND and issue no line request (R86). -/
def Obligations.OperandsOutsideTheirDomain : Prop :=
  ∀ (s : State) (resp : Resp) (w : Word),
    (w = 0x50000003#32 ∨
     (w.extractLsb' 16 16 = 0x4000#16 ∧ (w.extractLsb' 8 8 = 0#8 ∨ w.extractLsb' 0 8 = 0#8))) →
    (s.beforeBus resp).fsm = .idle →
    (s.beforeBus resp).out.lreq = none ∧
    step (s.withInput (.of resp (some (writeOf s.cfg .cmd w)))) =
      .next { s.beforeBus resp with
        done := true, err := .illegalOperand, rep := 0#4, symIdx := 0#5, phase := false, setcnt := 0#32
        errInfo := 0#32, fsm := .idle, out := { (s.beforeBus resp).out with completed := true } }

/-! ## The cycle -/

/-- A CMD write of a command's word that finds the sequencer IDLE after part 2 runs that command: the cycle's result is
`exec` of it on the state after part 2 (20_memory.md R68, 60_exceptions.md R170). `withFetchWord` places such a cycle (the
model's own operation, log entry 9). -/
def Obligations.StepRunsAcceptedCommand : Prop :=
  ∀ (s : State) (w : Word) (i : Instr), decode w = .command i ∨ decode w = .illegalOperand i →
    (∀ resp, (s.beforeBus resp).fsm = .idle →
      step (s.withInput (.of resp (some (writeOf s.cfg .cmd w)))) = exec i (s.beforeBus resp)) ∧
    step (s.withFetchWord 32 w.toNat) = exec i { s.ticked with fsm := .idle }

/-- A CMD write that finds st.fsm not IDLE after part 2 sets REJ and changes nothing else: the cycle's result is that of
the same cycle with no access, with REJ set (60_exceptions.md R177). -/
def Obligations.BusyBlockRejects : Prop :=
  ∀ (s : State) (resp : Resp) (w : Word), (s.beforeBus resp).fsm ≠ .idle →
    step (s.withInput (.of resp none)) = .next (s.beforeBus resp) ∧
    step (s.withInput (.of resp (some (writeOf s.cfg .cmd w)))) = .next { s.beforeBus resp with rej := true }

/-- OOKTX steps every cycle it is clocked (60_exceptions.md R187) and has no trap (R175): from every state, with any
inputs, a step answers a next state. -/
def Obligations.EveryCycleSteps : Prop :=
  ∀ s : State, ∃ t, step s = .next t ∧ t.inputs = s.inputs.tail ∧ t.cfg = s.cfg

/-- A cycle with rst = 1 (70_reset_and_hazards.md R200): every register takes its reset value whatever the state, the
response and the access are; a read of the window returns 0, nothing gives a bus error, and irq is 0. R200 does not speak of
widths: that this holds of an access of any width and alignment, against 20_memory.md R61 and R62, is the model's reading
(log entry 7, DEDUCED), and that the first byte decides what reads the window is its choice (log entry 6). -/
def Obligations.ResetCycleClears : Prop :=
  ∀ (s : State) (resp : Resp) (bus : Option Access), ∃ d,
    step (s.withInput { rst := true, resp := resp, bus := bus }) =
      .next { State.resetWith s.cfg s.inputs.tail with
        out := { rdata := d, busErr := false, lreq := none, completed := false } } ∧
    (∀ width addr, bus = some (.read width addr) → s.cfg.base ≤ addr → addr < s.cfg.base + 64 → d = some 0#32) ∧
    (State.resetWith s.cfg s.inputs.tail).irq = false

/-- The reset values of R201, register by register, for every parameter setting. -/
def Obligations.ResetValues : Prop :=
  ∀ (c : Config) (ins : List CycleInput), let s := State.resetWith c ins
    (c.backend = .direct → s.readReg .id = 0x0001180A#32) ∧ (c.backend = .board → s.readReg .id = 0x0101180A#32) ∧
    s.readReg .ctrl = 0#32 ∧ s.readReg .status = 0#32 ∧ s.readReg .code = 0#32 ∧
    s.readReg .pulseLen = 0x0000015E#32 ∧ s.readReg .lineSel = 0x0000FFFF#32 ∧ s.readReg .activePl = 0#32 ∧
    s.readReg .activeLine = 0x0000FFFF#32 ∧ s.readReg .frame = 0#32 ∧ s.readReg .setcnt = 0#32 ∧
    s.readReg .errInfo = 0#32 ∧ s.readReg .usCount = 0#32 ∧
    s.fsm = .idle ∧ s.op = .none ∧ s.v = false ∧ s.h = 0#8 ∧ s.l = 0#8 ∧ s.rem = 0 ∧ s.usPre = c.clkPerUs ∧
    s.out.lreq = none ∧ s.irq = false

/-- A response while st.fsm is IDLE, T_HIGH or T_LOW is ignored, and a response in a reset cycle is not seen (40_line.md
R102); an idle block with no access changes nothing but its counters (60_exceptions.md R187). -/
def Obligations.StrayResponsesIgnored : Prop :=
  ∀ (s : State) (resp : Resp) (bus : Option Access),
    (s.fsm = .idle ∨ s.fsm = .tHigh ∨ s.fsm = .tLow →
      step (s.withInput (.of resp bus)) = step (s.withInput (.of .none bus))) ∧
    step (s.withInput { rst := true, resp := resp, bus := bus }) =
      step (s.withInput { rst := true, resp := .none, bus := bus }) ∧
    (s.fsm = .idle → step (s.withInput (.of resp none)) = .next s.ticked)

/-! ## The register window -/

/-- A read returns the value the register had at the start of its cycle (20_memory.md R69) and has no other effect
(R66). -/
def Obligations.ReadReturnsStartOfCycle : Prop :=
  ∀ (s : State) (resp : Resp) (r : Reg),
    step (s.withInput (.of resp none)) = .next (s.beforeBus resp) ∧
    step (s.withInput (.of resp (some (readOf s.cfg r)))) =
      .next { s.beforeBus resp with out := { (s.beforeBus resp).out with rdata := some (s.readReg r) } }

/-- An access to the window of another width than 32 bits (20_memory.md R61), or misaligned (R62), gets a bus error; a
read returns 0; and no state changes. For an access that begins in the window and reaches past its end (64 bits at offset
0x3C, 32 bits at 0x3D to 0x3F) this is the model's own choice: the address of the first byte decides (log entry 6). -/
def Obligations.BadAccessesGetABusError : Prop :=
  ∀ (s : State) (resp : Resp) (width : Width) (addr : Nat) (w : Word),
    s.cfg.base ≤ addr → addr < s.cfg.base + 64 → (width ≠ .w32 ∨ (addr - s.cfg.base) % 4 ≠ 0) →
    step (s.withInput (.of resp (some (.read width addr)))) =
      .next { s.beforeBus resp with
        out := { (s.beforeBus resp).out with busErr := true, rdata := some 0#32 } } ∧
    step (s.withInput (.of resp (some (.write width addr w)))) =
      .next { s.beforeBus resp with out := { (s.beforeBus resp).out with busErr := true } }

/-- An aligned 32-bit write to a read-only register is ignored with no bus error, and a read of CMD returns 0 with no
effect (20_memory.md R65); the same of writes and reads of the reserved offsets (R64). -/
def Obligations.ReadOnlyWritesIgnored : Prop :=
  ∀ (s : State) (resp : Resp) (r : Reg) (w : Word),
    (r ∈ [Reg.id, .activePl, .activeLine, .frame, .setcnt, .errInfo, .usCount, .reserved34, .reserved38, .reserved3C] →
      step (s.withInput (.of resp (some (writeOf s.cfg r w)))) = .next (s.beforeBus resp)) ∧
    (r ∈ [Reg.cmd, .reserved34, .reserved38, .reserved3C] →
      step (s.withInput (.of resp (some (readOf s.cfg r)))) =
        .next { s.beforeBus resp with out := { (s.beforeBus resp).out with rdata := some 0#32 } })

/-- A write to CTRL, CODE, PULSE_LEN or LINE_SEL, busy or not, stores the bits 10_state.md R24, R34, R35 and R36 say and
has no other effect, and the next read returns them. -/
def Obligations.OperandRegistersStore : Prop :=
  ∀ (s : State) (resp : Resp) (w : Word), let m := s.beforeBus resp
    (∃ t, step (s.withInput (.of resp (some (writeOf s.cfg .ctrl w)))) = .next t ∧
      t = { m with ie := w.getLsbD 0 } ∧ t.readReg .ctrl = w &&& 1#32) ∧
    (∃ t, step (s.withInput (.of resp (some (writeOf s.cfg .code w)))) = .next t ∧
      t = { m with code := w } ∧ t.readReg .code = w) ∧
    (∃ t, step (s.withInput (.of resp (some (writeOf s.cfg .pulseLen w)))) = .next t ∧
      t = { m with pulseLen := w } ∧ t.readReg .pulseLen = w) ∧
    (∃ t, step (s.withInput (.of resp (some (writeOf s.cfg .lineSel w)))) = .next t ∧
      t = { m with lineSel := w.extractLsb' 0 24 } ∧ t.readReg .lineSel = w &&& 0x00FFFFFF#32)

/-- A write to STATUS clears DONE if bit 2 is 1 and no command completes in the cycle, clears REJ if bit 3 is 1, and
ignores every other bit (10_state.md R25, 20_memory.md R68); a W1C write of DONE in the cycle a command completes leaves
DONE at 1 (70_reset_and_hazards.md R207). -/
def Obligations.StatusWriteOneToClear : Prop :=
  ∀ (s : State) (resp : Resp) (w : Word), let m := s.beforeBus resp
    step (s.withInput (.of resp (some (writeOf s.cfg .status w)))) =
      .next { m with
        done := m.done && !(w.getLsbD 2 && !m.out.completed)
        rej := m.rej && !w.getLsbD 3 } ∧
    (m.out.completed = true → m.done = true)

/-- An access outside the window does not reach OOKTX (20_memory.md R60); that the address of the first byte decides is
the model's own choice (log entry 6). -/
def Obligations.OutsideAccessesDoNotReach : Prop :=
  ∀ (s : State) (resp : Resp) (width : Width) (addr : Nat) (w : Word),
    (addr < s.cfg.base ∨ s.cfg.base + 64 ≤ addr) →
    step (s.withInput (.of resp (some (.read width addr)))) = .next (s.beforeBus resp) ∧
    step (s.withInput (.of resp (some (.write width addr w)))) = .next (s.beforeBus resp)

/-- The layout of STATUS (10_state.md R25): every field at its bits, reserved fields 0, and BUSY 1 exactly when st.fsm is
not IDLE (R26). -/
def Obligations.StatusLayout : Prop :=
  ∀ s : State, let w := s.readReg .status
    (w.getLsbD 0 = true ↔ s.fsm ≠ .idle) ∧ w.getLsbD 1 = s.isOpen ∧ w.getLsbD 2 = s.done ∧ w.getLsbD 3 = s.rej ∧
    w.extractLsb' 4 4 = s.err.code ∧ w.getLsbD 8 = s.phase ∧ w.getLsbD 9 = s.lineValid ∧ w.getLsbD 10 = s.lineLevel ∧
    w.extractLsb' 11 5 = 0#5 ∧ w.extractLsb' 16 5 = s.symIdx ∧ w.extractLsb' 21 3 = 0#3 ∧
    w.extractLsb' 24 4 = s.rep ∧ w.extractLsb' 28 4 = 0#4

/-- The layout of ID and that nothing changes it (10_state.md R23): REPEAT 10, FRAME_BITS 24, VERSION 1, BACKEND. -/
def Obligations.IdIsConstant : Prop :=
  ∀ s t : State, step s = .next t →
    t.readReg .id = s.readReg .id ∧
    (s.readReg .id).extractLsb' 0 8 = 10#8 ∧ (s.readReg .id).extractLsb' 8 8 = 24#8 ∧
    (s.readReg .id).extractLsb' 16 8 = 1#8 ∧ ((s.readReg .id).getLsbD 24 = true ↔ s.cfg.backend = .board) ∧
    (s.readReg .id).extractLsb' 25 7 = 0#7

/-- The layout of ERR_INFO (10_state.md R41, 40_line.md R104): OFFSET, DEV, KIND, LEVEL, and 31:28 zero. -/
def Obligations.ErrInfoLayout : Prop :=
  ∀ (kind : ReqKind) (level : Level) (line : BitVec 24), let w := errInfoWord kind level line
    w.extractLsb' 0 24 = line ∧ w.getLsbD 27 = level ∧ w.extractLsb' 28 4 = 0#4 ∧
    w.extractLsb' 24 3 =
      (match kind with | .openLine => 1#3 | .setLine => 2#3 | .releaseLine => 3#3 | .lookupLine => 4#3)

/-! ## The commands in their accept cycle -/

/-- OPEN (40_line.md R107, with the accept updates of 60_exceptions.md R170): it always answers a next state. While open:
ALREADY_OPEN. With NO_PIN: CFG_PIN. With a pulse length that is not positive: CFG_PULSE. Else the active copies are
written and OPEN(dev, off) is requested (DIRECT), or OOKTX is open at once with result OK (BOARD). Everything else is
unchanged. -/
def Obligations.OpenRuns : Prop :=
  ∀ s : State,
    let done := { s with
      done := true, rep := 0#4, symIdx := 0#5, phase := false, setcnt := 0#32, errInfo := 0#32, fsm := .idle
      out := { s.out with completed := true } }
    (s.isOpen = true → exec .openCmd s = .next { done with err := .alreadyOpen }) ∧
    (s.isOpen = false → s.lineSel.extractLsb' 0 16 = 0xFFFF#16 → exec .openCmd s = .next { done with err := .cfgPin }) ∧
    (s.isOpen = false → s.lineSel.extractLsb' 0 16 ≠ 0xFFFF#16 → s.pulseLen.toInt < 1 →
      exec .openCmd s = .next { done with err := .cfgPulse }) ∧
    (s.isOpen = false → s.lineSel.extractLsb' 0 16 ≠ 0xFFFF#16 → 1 ≤ s.pulseLen.toInt →
      (s.cfg.backend = .board →
        exec .openCmd s = .next { done with
          err := .ok, isOpen := true, activePl := s.pulseLen, activeLine := s.lineSel, op := .openCmd }) ∧
      (s.cfg.backend = .direct →
        exec .openCmd s = .next { s with
          done := false, err := .ok, rep := 0#4, symIdx := 0#5, phase := false, setcnt := 0#32, errInfo := 0#32
          activePl := s.pulseLen, activeLine := s.lineSel, op := .openCmd, fsm := .wOpen
          out := { s.out with
            lreq := some (.openLine (s.lineSel.extractLsb' 16 8) (s.lineSel.extractLsb' 0 16)) } }))

/-- CLOSE (40_line.md R108): it always answers a next state. While closed: OK with no request. Else RELEASE(dev, off) is
requested (DIRECT), or OPEN and LINE_VALID go to 0 at once with result OK (BOARD). Everything else is unchanged. -/
def Obligations.CloseRuns : Prop :=
  ∀ s : State,
    let done := { s with
      done := true, err := .ok, rep := 0#4, symIdx := 0#5, phase := false, setcnt := 0#32, errInfo := 0#32, fsm := .idle
      out := { s.out with completed := true } }
    (s.isOpen = false → exec .closeCmd s = .next done) ∧
    (s.isOpen = true → s.cfg.backend = .board →
      exec .closeCmd s = .next { done with isOpen := false, lineValid := false, op := .closeCmd }) ∧
    (s.isOpen = true → s.cfg.backend = .direct →
      exec .closeCmd s = .next { s with
        done := false, err := .ok, rep := 0#4, symIdx := 0#5, phase := false, setcnt := 0#32, errInfo := 0#32
        op := .closeCmd, fsm := .wRelease
        out := { s.out with
          lreq := some (.releaseLine (s.activeLine.extractLsb' 16 8) (s.activeLine.extractLsb' 0 16)) } })

/-- SET_LINE v (40_line.md R109, R106): it always answers a next state. While closed: NOT_OPEN. Else the SET(v) is issued
at once and counted (DIRECT), or a LOOKUP is requested first (BOARD). Everything else is unchanged. -/
def Obligations.SetLineRuns : Prop :=
  ∀ (s : State) (v : Level),
    (s.isOpen = false → exec (.setLine v) s = .next { s with
      done := true, err := .notOpen, rep := 0#4, symIdx := 0#5, phase := false, setcnt := 0#32, errInfo := 0#32
      fsm := .idle, out := { s.out with completed := true } }) ∧
    (s.isOpen = true → s.cfg.backend = .direct → exec (.setLine v) s = .next { s with
      done := false, err := .ok, rep := 0#4, symIdx := 0#5, phase := false, setcnt := 1#32, errInfo := 0#32
      v := v, op := .setLine, fsm := .wSetV, out := { s.out with lreq := some (.setLine v) } }) ∧
    (s.isOpen = true → s.cfg.backend = .board → exec (.setLine v) s = .next { s with
      done := false, err := .ok, rep := 0#4, symIdx := 0#5, phase := false, setcnt := 0#32, errInfo := 0#32
      v := v, op := .setLine, fsm := .wLookup
      out := { s.out with
        lreq := some (.lookupLine (s.activeLine.extractLsb' 16 8) (s.activeLine.extractLsb' 0 16)) } })

/-- EMIT_PULSE h, l (41_pulse.md R125, 40_line.md R106): it always answers a next state. With H = 0 or L = 0:
ILLEGAL_OPERAND. While closed: NOT_OPEN. Else the pulse's SET(1) is issued at once (DIRECT), or a LOOKUP first (BOARD).
Everything else is unchanged. -/
def Obligations.EmitPulseRuns : Prop :=
  ∀ (s : State) (h l : BitVec 8),
    let done := { s with
      done := true, rep := 0#4, symIdx := 0#5, phase := false, setcnt := 0#32, errInfo := 0#32, fsm := .idle
      out := { s.out with completed := true } }
    (h = 0#8 ∨ l = 0#8 → exec (.emitPulse h l) s = .next { done with err := .illegalOperand }) ∧
    (h ≠ 0#8 → l ≠ 0#8 →
      (s.isOpen = false → exec (.emitPulse h l) s = .next { done with err := .notOpen }) ∧
      (s.isOpen = true → s.cfg.backend = .direct → exec (.emitPulse h l) s = .next { s with
        done := false, err := .ok, rep := 0#4, symIdx := 0#5, phase := false, setcnt := 1#32, errInfo := 0#32
        h := h, l := l, op := .emitPulse, fsm := .wSetH, out := { s.out with lreq := some (.setLine true) } }) ∧
      (s.isOpen = true → s.cfg.backend = .board → exec (.emitPulse h l) s = .next { s with
        done := false, err := .ok, rep := 0#4, symIdx := 0#5, phase := false, setcnt := 0#32, errInfo := 0#32
        h := h, l := l, op := .emitPulse, fsm := .wLookup
        out := { s.out with
          lreq := some (.lookupLine (s.activeLine.extractLsb' 16 8) (s.activeLine.extractLsb' 0 16)) } }))

/-- EMIT_SYMBOL s (42_symbol.md R142, R140): it always answers a next state. With SYM = 3: ILLEGAL_OPERAND. While closed:
NOT_OPEN. Else the pulse of the symbol's ratio, (1,3), (3,1) or (1,31), starts: its SET(1) at once (DIRECT), or a LOOKUP
first (BOARD). Everything else is unchanged. -/
def Obligations.EmitSymbolRuns : Prop :=
  ∀ (s : State) (sym : BitVec 2),
    let done := { s with
      done := true, rep := 0#4, symIdx := 0#5, phase := false, setcnt := 0#32, errInfo := 0#32, fsm := .idle
      out := { s.out with completed := true } }
    (sym = 3#2 → exec (.emitSymbol sym) s = .next { done with err := .illegalOperand }) ∧
    (∀ h l : BitVec 8,
      (sym = 0#2 ∧ h = 1#8 ∧ l = 3#8) ∨ (sym = 1#2 ∧ h = 3#8 ∧ l = 1#8) ∨ (sym = 2#2 ∧ h = 1#8 ∧ l = 31#8) →
      (s.isOpen = false → exec (.emitSymbol sym) s = .next { done with err := .notOpen }) ∧
      (s.isOpen = true → s.cfg.backend = .direct → exec (.emitSymbol sym) s = .next { s with
        done := false, err := .ok, rep := 0#4, symIdx := 0#5, phase := false, setcnt := 1#32, errInfo := 0#32
        h := h, l := l, op := .emitSymbol, fsm := .wSetH, out := { s.out with lreq := some (.setLine true) } }) ∧
      (s.isOpen = true → s.cfg.backend = .board → exec (.emitSymbol sym) s = .next { s with
        done := false, err := .ok, rep := 0#4, symIdx := 0#5, phase := false, setcnt := 0#32, errInfo := 0#32
        h := h, l := l, op := .emitSymbol, fsm := .wLookup
        out := { s.out with
          lreq := some (.lookupLine (s.activeLine.extractLsb' 16 8) (s.activeLine.extractLsb' 0 16)) } }))

/-- TRANSMIT (43_frame.md R153, R152): it always answers a next state. With a code outside 0..2^24-1: RANGE, open or not.
While closed: NOT_OPEN. Else the code is copied into FRAME and the pulse of its most significant bit starts, ONE if the
bit is 1 and ZERO if it is 0: its SET(1) at once (DIRECT), or a LOOKUP first (BOARD). Everything else is unchanged. -/
def Obligations.TransmitRuns : Prop :=
  ∀ s : State,
    let done := { s with
      done := true, rep := 0#4, symIdx := 0#5, phase := false, setcnt := 0#32, errInfo := 0#32, fsm := .idle
      out := { s.out with completed := true } }
    (s.code.toInt < 0 ∨ 2 ^ 24 ≤ s.code.toInt → exec .transmit s = .next { done with err := .range }) ∧
    (0 ≤ s.code.toInt → s.code.toInt < 2 ^ 24 →
      (s.isOpen = false → exec .transmit s = .next { done with err := .notOpen }) ∧
      (∀ h l : BitVec 8,
        (s.code.getLsbD 23 = true ∧ h = 3#8 ∧ l = 1#8) ∨ (s.code.getLsbD 23 = false ∧ h = 1#8 ∧ l = 3#8) →
        (s.isOpen = true → s.cfg.backend = .direct → exec .transmit s = .next { s with
          done := false, err := .ok, rep := 0#4, symIdx := 0#5, phase := false, setcnt := 1#32, errInfo := 0#32
          frame := s.code.extractLsb' 0 24, h := h, l := l, op := .transmit, fsm := .wSetH
          out := { s.out with lreq := some (.setLine true) } }) ∧
        (s.isOpen = true → s.cfg.backend = .board → exec .transmit s = .next { s with
          done := false, err := .ok, rep := 0#4, symIdx := 0#5, phase := false, setcnt := 0#32, errInfo := 0#32
          frame := s.code.extractLsb' 0 24, h := h, l := l, op := .transmit, fsm := .wLookup
          out := { s.out with
            lreq := some (.lookupLine (s.activeLine.extractLsb' 16 8) (s.activeLine.extractLsb' 0 16)) } })))

/-- The frame of every accepted command, read through the register window (10_state.md R50): ID, CTRL, CODE, PULSE_LEN,
LINE_SEL, US_COUNT and the reserved offsets read as before; ACTIVE_PL and ACTIVE_LINE change only by OPEN, FRAME only by
TRANSMIT, OPEN and LINE_VALID only by OPEN and CLOSE; REJ and LINE_LEVEL keep their values. -/
def Obligations.AcceptFrame : Prop :=
  ∀ (i : Instr) (s t : State), exec i s = .next t →
    (∀ r ∈ [Reg.id, .ctrl, .cmd, .code, .pulseLen, .lineSel, .usCount, .reserved34, .reserved38, .reserved3C],
      t.readReg r = s.readReg r) ∧
    (i ≠ .openCmd → t.readReg .activePl = s.readReg .activePl ∧ t.readReg .activeLine = s.readReg .activeLine) ∧
    (i ≠ .transmit → t.readReg .frame = s.readReg .frame) ∧
    (i ≠ .openCmd → i ≠ .closeCmd → t.isOpen = s.isOpen) ∧ (i ≠ .closeCmd → t.lineValid = s.lineValid) ∧
    t.rej = s.rej ∧ t.lineLevel = s.lineLevel ∧ t.rem = s.rem ∧ t.usPre = s.usPre ∧ t.cfg = s.cfg ∧
    (i ≠ .setLine true → i ≠ .setLine false → t.v = s.v)

/-- A command that ends in its accept cycle with a result other than OK changes only the bookkeeping of R170 (DONE, ERR,
progress, SETCNT, ERR_INFO), issues no request, and its result is one R172 allows it (60_exceptions.md R171, R172). -/
def Obligations.ErrorsChangeOnlyBookkeeping : Prop :=
  ∀ (i : Instr) (s t : State), exec i s = .next t → t.err ≠ .ok →
    t = { s with
      done := true, err := t.err, rep := 0#4, symIdx := 0#5, phase := false, setcnt := 0#32, errInfo := 0#32
      fsm := .idle, out := { s.out with completed := true } } ∧
    (match i with
     | .openCmd => t.err = .alreadyOpen ∨ t.err = .cfgPin ∨ t.err = .cfgPulse
     | .closeCmd => False
     | .setLine _ => t.err = .notOpen
     | .emitPulse _ _ => t.err = .illegalOperand ∨ t.err = .notOpen
     | .emitSymbol _ => t.err = .illegalOperand ∨ t.err = .notOpen
     | .transmit => t.err = .range ∨ t.err = .notOpen)

/-! ## The sequencer -/

/-- An OK to OPEN opens OOKTX (40_line.md R107) and an OK to RELEASE closes it (R108), each with result OK; an OK to
LOOKUP issues the command's first SET in the cycle of the OK (R106). -/
def Obligations.LifecycleAnswersOk : Prop :=
  ∀ s : State,
    (s.fsm = .wOpen → step (s.withInput (.of .ok none)) = .next { s.ticked with
      isOpen := true, err := .ok, done := true, fsm := .idle, out := { Outputs.quiet with completed := true } }) ∧
    (s.fsm = .wRelease → step (s.withInput (.of .ok none)) = .next { s.ticked with
      isOpen := false, lineValid := false, err := .ok, done := true, fsm := .idle
      out := { Outputs.quiet with completed := true } }) ∧
    (s.fsm = .wLookup → s.op = .setLine → step (s.withInput (.of .ok none)) = .next { s.ticked with
      setcnt := s.setcnt + 1#32, fsm := .wSetV, out := { Outputs.quiet with lreq := some (.setLine s.v) } }) ∧
    (s.fsm = .wLookup → s.op = .emitPulse ∨ s.op = .emitSymbol ∨ s.op = .transmit →
      step (s.withInput (.of .ok none)) = .next { s.ticked with
        phase := false, setcnt := s.setcnt + 1#32, fsm := .wSetH
        out := { Outputs.quiet with lreq := some (.setLine true) } })

/-- When a SET(v) is answered OK, LINE_LEVEL is v and LINE_VALID is 1 from that cycle on (40_line.md R103): SET_LINE then
completes (R109), and a pulse's phase starts with exactly units * ACTIVE_PL * CLK_PER_US cycles to run (41_pulse.md R120,
R122). -/
def Obligations.SetAnsweredOk : Prop :=
  ∀ s : State,
    (s.fsm = .wSetV → step (s.withInput (.of .ok none)) = .next { s.ticked with
      lineLevel := s.v, lineValid := true, err := .ok, done := true, fsm := .idle
      out := { Outputs.quiet with completed := true } }) ∧
    (s.fsm = .wSetH → step (s.withInput (.of .ok none)) = .next { s.ticked with
      lineLevel := true, lineValid := true, fsm := .tHigh
      rem := s.h.toNat * s.activePl.toNat * s.cfg.clkPerUs }) ∧
    (s.fsm = .wSetL → step (s.withInput (.of .ok none)) = .next { s.ticked with
      lineLevel := false, lineValid := true, fsm := .tLow
      rem := s.l.toNat * s.activePl.toNat * s.cfg.clkPerUs })

/-- A line failure ends the command in the cycle the ERR arrives, with result LINE and ERR_INFO naming the failing request
(40_line.md R104) and no request (41_pulse.md R123); nothing else changes but the counters: LINE_LEVEL (R103) and the
progress fields keep their values, and so do OPEN and LINE_VALID except after a failed RELEASE, which closes OOKTX (R108). -/
def Obligations.LineErrorEndsTheCommand : Prop :=
  ∀ (s : State) (kind : ReqKind) (level : Level),
    (s.fsm = .wOpen ∧ kind = .openLine ∧ level = false) ∨ (s.fsm = .wLookup ∧ kind = .lookupLine ∧ level = false) ∨
    (s.fsm = .wSetV ∧ kind = .setLine ∧ level = s.v) ∨ (s.fsm = .wSetH ∧ kind = .setLine ∧ level = true) ∨
    (s.fsm = .wSetL ∧ kind = .setLine ∧ level = false) ∨ (s.fsm = .wRelease ∧ kind = .releaseLine ∧ level = false) →
    step (s.withInput (.of .err none)) = .next { s.ticked with
      errInfo := errInfoWord kind level s.activeLine, err := .line, done := true, fsm := .idle
      isOpen := s.isOpen && decide (kind ≠ .releaseLine), lineValid := s.lineValid && decide (kind ≠ .releaseLine)
      out := { Outputs.quiet with completed := true } }

/-- The phase timer is exact (41_pulse.md R120): from a timing state with n + 1 cycles left, whatever the line and the
hosts do, the phase goes on for n cycles, counting down by one, and expires in the next: a high phase issues SET(0) in
that cycle, and the low phase of a pulse command ends the command or issues the next symbol's SET(1) in that cycle (R122,
43_frame.md R154). -/
def Obligations.PhaseTimerIsExact : Prop :=
  ∀ (t : Nat → State) (n : Nat), Trace t → (t 0).fsm.timing = true → (t 0).rem = n + 1 →
    (∀ k, k ≤ n → (t k).input.rst = false) →
    (∀ k, k ≤ n → (t k).fsm = (t 0).fsm ∧ (t k).rem = n + 1 - k) ∧
    (∀ k, k < n → (t (k + 1)).out.lreq = none ∧ (t (k + 1)).out.completed = false) ∧
    ((t 0).fsm = .tHigh → (t (n + 1)).fsm = .wSetL ∧ (t (n + 1)).out.lreq = some (.setLine false) ∧
      (t (n + 1)).phase = true) ∧
    ((t 0).fsm = .tLow → (t 0).op.pulses = true →
      (t (n + 1)).out.completed = true ∨
      ((t (n + 1)).fsm = .wSetH ∧ (t (n + 1)).out.lreq = some (.setLine true) ∧ (t (n + 1)).phase = false))

/-- The end of a phase (41_pulse.md R122, 43_frame.md R154): a high phase issues SET(0); the low phase of EMIT_PULSE and
EMIT_SYMBOL completes with OK; the low phase of a TRANSMIT symbol completes with OK after the tenth SYNC, and otherwise
starts the next symbol's pulse in the same cycle, with SYM_IDX and REP moved on. -/
def Obligations.PhaseEnds : Prop :=
  ∀ (s : State) (resp : Resp), s.rem = 1 →
    let t0 := { s.ticked with rem := 0 }
    let completes := { t0 with err := .ok, done := true, fsm := .idle, out := { Outputs.quiet with completed := true } }
    (s.fsm = .tHigh → step (s.withInput (.of resp none)) = .next { t0 with
      phase := true, setcnt := s.setcnt + 1#32, fsm := .wSetL
      out := { Outputs.quiet with lreq := some (.setLine false) } }) ∧
    (s.fsm = .tLow → s.op = .emitPulse ∨ s.op = .emitSymbol →
      step (s.withInput (.of resp none)) = .next completes) ∧
    (s.fsm = .tLow → s.op = .transmit → s.symIdx = 24#5 → s.rep = 9#4 →
      step (s.withInput (.of resp none)) = .next completes) ∧
    (s.fsm = .tLow → s.op = .transmit → ¬ (s.symIdx = 24#5 ∧ s.rep = 9#4) →
      ∀ (i : BitVec 5) (r : BitVec 4),
        (s.symIdx = 24#5 ∧ i = 0#5 ∧ r = s.rep + 1#4) ∨ (s.symIdx ≠ 24#5 ∧ i = s.symIdx + 1#5 ∧ r = s.rep) →
        step (s.withInput (.of resp none)) = .next { t0 with
          symIdx := i, rep := r, phase := false, setcnt := s.setcnt + 1#32, fsm := .wSetH
          h := (ratio (symAt s.frame i.toNat)).1, l := (ratio (symAt s.frame i.toNat)).2
          out := { Outputs.quiet with lreq := some (.setLine true) } })

/-- The SYM codes of the three symbols, their pulse ratios ZERO = (1,3), ONE = (3,1), SYNC = (1,31) and total units; code
3 is no symbol, and EMIT_SYMBOL with it is ILLEGAL_OPERAND (42_symbol.md R140). -/
def Obligations.PulseRatios : Prop :=
  symbolOf 0#2 = some .zero ∧ symbolOf 1#2 = some .one ∧ symbolOf 2#2 = some .sync ∧ symbolOf 3#2 = none ∧
  decode 0x50000003#32 = .illegalOperand (.emitSymbol 3#2) ∧
  ratio .zero = (1#8, 3#8) ∧ ratio .one = (3#8, 1#8) ∧ ratio .sync = (1#8, 31#8) ∧
  (ratio .zero).1.toNat + (ratio .zero).2.toNat = 4 ∧ (ratio .one).1.toNat + (ratio .one).2.toNat = 4 ∧
  (ratio .sync).1.toNat + (ratio .sync).2.toNat = 32

/-- The bit-serial encoder sends the code most significant bit first (43_frame.md R150): for every code in 0..2^24-1 the 24
bits read as a base-2 number, first bit most significant, are the code; the symbol of index 24 is SYNC, and the symbol of
a lower index is ONE or ZERO by its bit. -/
def Obligations.RenderingIsTheCode : Prop :=
  ∀ frame : BitVec 24,
    (List.range 24).foldl (fun acc i => 2 * acc + (bitAt frame i).toNat) 0 = frame.toNat ∧
    symAt frame 24 = .sync ∧ (∀ i, i < 24 → symAt frame i = if bitAt frame i then .one else .zero) ∧
    (∀ i, i < 24 → bitAt frame i = frame.getLsbD (23 - i))

/-- TRANSMIT's range check `0 <= s32(CODE) < 2^24` is the same as CODE[31:24] = 0 (43_frame.md R152). -/
def Obligations.RangeCheckIsTheHighByte : Prop :=
  ∀ w : Word, (0 ≤ w.toInt ∧ w.toInt < 2 ^ 24 ↔ w.extractLsb' 24 8 = 0#8) ∧
    (codeInRange w = true ↔ w.extractLsb' 24 8 = 0#8)

/-! ## The whole machine -/

/-- The invariant holds of the reset state of every block whose parameters lie in their domains (70_reset_and_hazards.md
R201). -/
def Obligations.InvariantAtReset : Prop :=
  ∀ (c : Config) (ins : List CycleInput), c.wf = true → (State.resetWith c ins).Inv

/-- Every cycle keeps the invariant, whatever the inputs are: REP and SYM_IDX in their ranges, SETCNT the number of the
SET of the pulse in flight and at most 500, ACTIVE_PL legal while open, LINE_VALID only while open, the phase timer never
over its product, ERR_INFO naming the active line (10_state.md R31, R37, R40, R43, R46, R47; 40_line.md R110; 43_frame.md
R151; 60_exceptions.md R174, R181). -/
def Obligations.InvariantKept : Prop :=
  ∀ s t : State, s.Inv → step s = .next t → t.Inv

/-- A read of US_COUNT in cycle k after reset returns floor(k / CLK_PER_US) mod 2^32 (60_exceptions.md R181). -/
def Obligations.UsCountCountsMicroseconds : Prop :=
  ∀ (t : Nat → State) (c : Config) (ins : List CycleInput) (k : Nat), Trace t → c.wf = true →
    t 0 = State.resetWith c ins → (∀ j, j < k → (t j).input.rst = false) →
    ((t k).readReg .usCount).toNat = k / c.clkPerUs % 2 ^ 32

/-- A line request is issued exactly in the cycles that end in a wait which was not already going on unanswered: at most
one request is outstanding, and a new one goes out only after the last has been answered (10_state.md R49, 40_line.md
R101). -/
def Obligations.OneRequestOutstanding : Prop :=
  ∀ s t : State, step s = .next t →
    (t.out.lreq ≠ none ↔
      t.fsm.waiting = true ∧ ¬ (s.fsm.waiting = true ∧ s.input.resp = .none ∧ s.input.rst = false))

/-- No SET request is issued while OOKTX is closed, and LINE_VALID = 1 only while it is open (40_line.md R110). -/
def Obligations.NoSetWhileClosed : Prop :=
  ∀ (s t : State) (v : Level), s.Inv → step s = .next t →
    (t.out.lreq = some (.setLine v) → t.isOpen = true) ∧ (t.lineValid = true → t.isOpen = true)

/-- STATUS.OPEN becomes 1 only when an OPEN completes with OK, and 0 only when a CLOSE completes or at reset; a line error
does not clear it (10_state.md R27). -/
def Obligations.OpenChangesOnlyByOpenAndClose : Prop :=
  ∀ s t : State, step s = .next t →
    (s.isOpen = false → t.isOpen = true → s.input.rst = false ∧ t.out.completed = true ∧
      ((s.fsm = .wOpen ∧ s.input.resp = .ok) ∨
       (cmdWritten s.cfg s.input.bus = some 0x10000000#32 ∧ t.err = .ok ∧ t.done = true))) ∧
    (s.isOpen = true → t.isOpen = false → s.input.rst = true ∨ (t.out.completed = true ∧
      ((s.fsm = .wRelease ∧ s.input.resp ≠ .none) ∨
       (cmdWritten s.cfg s.input.bus = some 0x20000000#32 ∧ t.err = .ok ∧ t.done = true))))

/-- STATUS.DONE is set only by a completion, and cleared only by reset, by the accept of a command, or by a host's write
of 1 to bit 2 of STATUS (10_state.md R28). -/
def Obligations.DoneMeansCompleted : Prop :=
  ∀ s t : State, step s = .next t →
    (s.done = false → t.done = true → t.out.completed = true) ∧
    (s.done = true → t.done = false → s.input.rst = true ∨
      (cmdWritten s.cfg s.input.bus ≠ none ∧ (s.beforeBus s.input.resp).fsm = .idle) ∨
      ∃ w width addr, s.input.bus = some (.write width addr w) ∧ target s.cfg width addr = .reg .status ∧
        w.getLsbD 2 = true)

/-- STATUS.REJ is set exactly by a CMD write that finds st.fsm not IDLE after part 2, and cleared only by a host's write of
1 to bit 3 of STATUS or by reset; accepting a command does not clear it (10_state.md R29). -/
def Obligations.RejMeansRejected : Prop :=
  ∀ s t : State, step s = .next t →
    (s.input.rst = false → cmdWritten s.cfg s.input.bus ≠ none → (s.beforeBus s.input.resp).fsm ≠ .idle → t.rej = true) ∧
    (s.rej = false → t.rej = true →
      cmdWritten s.cfg s.input.bus ≠ none ∧ (s.beforeBus s.input.resp).fsm ≠ .idle) ∧
    (s.rej = true → t.rej = false → s.input.rst = true ∨
      ∃ w width addr, s.input.bus = some (.write width addr w) ∧ target s.cfg width addr = .reg .status ∧
        w.getLsbD 3 = true)

/-- LINE_LEVEL and LINE_VALID record the last SET answered OK: outside reset, LINE_LEVEL changes and LINE_VALID rises only
in a cycle in which a SET of the recorded level is answered OK (10_state.md R32). -/
def Obligations.LineRecordFollowsOkSets : Prop :=
  ∀ s t : State, step s = .next t → s.input.rst = false →
    t.lineLevel ≠ s.lineLevel ∨ (s.lineValid = false ∧ t.lineValid = true) →
    s.input.resp = .ok ∧
    ((s.fsm = .wSetV ∧ t.lineLevel = s.v) ∨ (s.fsm = .wSetH ∧ t.lineLevel = true) ∨
     (s.fsm = .wSetL ∧ t.lineLevel = false))

/-- irq is DONE AND IE (60_exceptions.md R178), and it rises only by a completion or by a host's write of IE = 1 while DONE
is 1: no rejection, line response, phase expiry or US_COUNT wrap raises it (R179). -/
def Obligations.IrqRisesOnlyByCompletion : Prop :=
  ∀ s t : State, step s = .next t →
    (t.irq = true ↔ t.done = true ∧ t.ie = true) ∧
    (s.irq = false → t.irq = true → t.out.completed = true ∨
      ∃ w width addr, s.input.bus = some (.write width addr w) ∧ target s.cfg width addr = .reg .ctrl ∧
        w.getLsbD 0 = true ∧ s.done = true)

/-- FRAME changes only at reset and in the accept cycle of a TRANSMIT that passes its checks, and then holds CODE
(10_state.md R39). -/
def Obligations.FrameHoldsTheCode : Prop :=
  ∀ s t : State, step s = .next t → s.input.rst = false → t.frame ≠ s.frame →
    cmdWritten s.cfg s.input.bus = some 0x60000000#32 ∧ t.op = .transmit ∧ t.isOpen = true ∧
    t.readReg .frame = s.readReg .code ∧ (s.readReg .code).toNat < 2 ^ 24

/-- ACTIVE_PL and ACTIVE_LINE change only at reset and in the accept cycle of an OPEN that passes its checks, and then hold
PULSE_LEN and LINE_SEL (10_state.md R37, R38). -/
def Obligations.ActiveCopiesChangeOnlyByOpen : Prop :=
  ∀ s t : State, step s = .next t → s.input.rst = false →
    t.activePl ≠ s.activePl ∨ t.activeLine ≠ s.activeLine →
    cmdWritten s.cfg s.input.bus = some 0x10000000#32 ∧ t.op = .openCmd ∧
    t.readReg .activePl = s.readReg .pulseLen ∧ t.readReg .activeLine = s.readReg .lineSel ∧
    1 ≤ (s.readReg .pulseLen).toInt ∧ (s.readReg .lineSel).extractLsb' 0 16 ≠ 0xFFFF#16

/-- SETCNT counts the SET requests since the last accept (10_state.md R40): in a cycle with no accept it goes up by one
exactly when a SET is issued, and an accept starts it again from the SET it issues itself. -/
def Obligations.SetcntCountsRequests : Prop :=
  ∀ s t : State, step s = .next t → s.input.rst = false →
    let issued : Word := if t.out.lreq = some (.setLine true) ∨ t.out.lreq = some (.setLine false) then 1#32 else 0#32
    let accepted := cmdWritten s.cfg s.input.bus ≠ none ∧ (s.beforeBus s.input.resp).fsm = .idle
    (¬ accepted → t.setcnt = s.setcnt + issued) ∧ (accepted → t.setcnt = issued)

/-- Where a TRANSMIT is when it issues a SET (43_frame.md R151): symbol k = 25 * REP + SYM_IDX issues its SET(1) as the
(2k+1)-th and its SET(0) as the (2k+2)-th SET request, with the units of the symbol at that index. -/
def Obligations.SetNumberNamesTheSymbol : Prop :=
  ∀ (s t : State) (v : Level), s.Inv → step s = .next t → t.out.lreq = some (.setLine v) → t.op = .transmit →
    t.fsm = (if v then .wSetH else .wSetL) ∧
    t.setcnt.toNat = 2 * (25 * t.rep.toNat + t.symIdx.toNat) + (if v then 1 else 2) ∧
    25 * t.rep.toNat + t.symIdx.toNat ≤ 249 ∧
    (t.h, t.l) = ratio (symAt t.frame t.symIdx.toNat)

/-- A write to CODE, PULSE_LEN or LINE_SEL never changes a command in flight (20_memory.md R74, 70_reset_and_hazards.md
R205, R206): two states that differ only in those registers stay so through any cycle that accepts no command, whatever
the line and the hosts do; only what a read of one of those three registers returns can differ. -/
def Obligations.OperandRegistersDoNotDisturb : Prop :=
  ∀ (s t t' : State) (c p : Word) (x : BitVec 24),
    step s = .next t → step { s with code := c, pulseLen := p, lineSel := x } = .next t' →
    ¬ (cmdWritten s.cfg s.input.bus ≠ none ∧ (s.beforeBus s.input.resp).fsm = .idle) →
    { t with code := t'.code, pulseLen := t'.pulseLen, lineSel := t'.lineSel
             out := { t.out with rdata := t'.out.rdata } } = t' ∧
    (regRead s.cfg s.input.bus ∉ [some Reg.code, some Reg.pulseLen, some Reg.lineSel] → t.out.rdata = t'.out.rdata)

/-- No rule of the sequencer reads US_COUNT (10_state.md R42): two states that differ only in the microsecond counter, its
prescaler and the cycle number stay so through any cycle; only what a read of US_COUNT returns can differ. The cycle number
as a field of State is the model's own (log entry 12). -/
def Obligations.UsCountDrivesNothing : Prop :=
  ∀ (s t t' : State) (n p k : Nat),
    step s = .next t → step { s with usCount := BitVec.ofNat 32 n, usPre := p, cyc := k } = .next t' →
    { t with usCount := t'.usCount, usPre := t'.usPre, cyc := t'.cyc
             out := { t.out with rdata := t'.out.rdata } } = t' ∧
    (regRead s.cfg s.input.bus ≠ some .usCount → t.out.rdata = t'.out.rdata)

/-- Nothing a host does can stop or change a command in flight, short of reset (43_frame.md R156, 60_exceptions.md R184):
two runs with the same resets and line responses, and any host accesses each, that start alike stay alike in the sequencer,
its timer, the progress, the results, the line record and the line requests for as long as the command in flight does not
complete. -/
def Obligations.HostsCannotDisturbACommand : Prop :=
  ∀ (t t' : Nat → State) (n : Nat), Trace t → Trace t' → (t 0).commandView = (t' 0).commandView →
    (∀ k, k < n → (t k).input.rst = (t' k).input.rst ∧ (t k).input.resp = (t' k).input.resp) →
    (∀ k, k < n → (t k).fsm ≠ .idle ∧ (t (k + 1)).out.completed = false) →
    ∀ k, k ≤ n → (t k).commandView = (t' k).commandView

/-- EMIT_SYMBOL s is equivalent on the line port and in every register to EMIT_PULSE RATIO(s) (42_symbol.md R142): two runs
of the same inputs, one with the one command and one with the other, are the same for ever, but for st.op. -/
def Obligations.SymbolIsItsPulse : Prop :=
  ∀ (t t' : Nat → State) (s : State) (resp : Resp) (sym : BitVec 2) (y : Symbol), Trace t → Trace t' →
    symbolOf sym = some y →
    t 0 = s.withInput (.of resp (some (writeOf s.cfg .cmd (encode (.emitSymbol sym))))) →
    t' 0 = s.withInput (.of resp (some (writeOf s.cfg .cmd (encode (.emitPulse (ratio y).1 (ratio y).2))))) →
    ∀ k, { t (k + 1) with op := .none } = { t' (k + 1) with op := .none }

/-- The duration of every command (70_reset_and_hazards.md R211, 43_frame.md R157): accepted in cycle 0 and ended in cycle
n, with every line answer OK, it has taken the latencies of its requests and its units times ACTIVE_PL times CLK_PER_US,
exactly, whatever the hosts did meanwhile short of a CMD write in the very cycle n; it ends with OK after the number of SET
requests R151 gives. A command that ends in its accept cycle (n = 0) is not among these: OpenRuns to TransmitRuns say when
one does. -/
def Obligations.CommandDuration : Prop :=
  ∀ (t : Nat → State) (i : Instr) (w : Word) (n : Nat), Trace t → (t 0).Inv → decode w = .command i →
    CommandAtStart t w → 1 ≤ n →
    (∀ k, 1 ≤ k → k ≤ n → RunsOn t k) → (∀ k, 1 ≤ k → k < n → (t (k + 1)).out.completed = false) →
    cmdWritten (t n).cfg (t n).input.bus = none → (t (n + 1)).out.completed = true →
    n = waitCycles t 1 n + i.units * (t 1).activePl.toNat * (t 0).cfg.clkPerUs ∧
    (t (n + 1)).setcnt.toNat = i.setRequests ∧ (t (n + 1)).err = .ok ∧ (t (n + 1)).done = true ∧
    (t (n + 1)).fsm = .idle

/-- Every accepted command completes in bounded time if the line agent answers (60_exceptions.md R170): if every request is
answered, with OK, within L cycles, a command accepted in cycle 0 and not ended before cycle n has n at most L for each of
its SET requests and one LOOKUP, OPEN or RELEASE, plus its units times ACTIVE_PL times CLK_PER_US (43_frame.md R157). An ERR
answer ends the command at once (LineErrorEndsTheCommand) and is not among these runs. -/
def Obligations.CommandsComplete : Prop :=
  ∀ (t : Nat → State) (i : Instr) (w : Word) (n L : Nat), Trace t → (t 0).Inv → decode w = .command i →
    CommandAtStart t w →
    (∀ k, 1 ≤ k → k ≤ n → RunsOn t k) → (∀ k, 1 ≤ k → k < n → (t (k + 1)).out.completed = false) →
    (∀ k, 1 ≤ k → k + L ≤ n + 1 → ∃ j, j < L ∧ ((t (k + j)).fsm.waiting = false ∨ (t (k + j)).input.resp = .ok)) →
    n ≤ (i.setRequests + 1) * L + i.units * (t 1).activePl.toNat * (t 0).cfg.clkPerUs

/-- A request that is never answered leaves OOKTX waiting, BUSY, for ever, whatever the hosts do (70_reset_and_hazards.md
R209). -/
def Obligations.UnansweredRequestHangs : Prop :=
  ∀ t : Nat → State, Trace t → (t 0).fsm.waiting = true →
    (∀ k, (t k).input.rst = false ∧ (t k).input.resp = .none) →
    ∀ k, (t k).fsm = (t 0).fsm ∧ (t k).busy = true ∧ (t (k + 1)).out.lreq = none ∧
      (t (k + 1)).out.completed = false ∧
      (cmdWritten (t k).cfg (t k).input.bus ≠ none → (t (k + 1)).rej = true)

/-- An idle block does nothing on its own (43_frame.md R155, 60_exceptions.md R187): as long as no host writes CMD and there
is no reset, it stays idle, issues no request and keeps the result, the progress, the line record, the configuration and
FRAME. In particular OOKTX never retries after a line error. -/
def Obligations.IdleBlockStaysSilent : Prop :=
  ∀ (t : Nat → State) (n : Nat), Trace t → (t 0).fsm = .idle →
    (∀ k, k < n → (t k).input.rst = false ∧ cmdWritten (t k).cfg (t k).input.bus = none) →
    (t n).fsm = .idle ∧ (∀ k, k < n → (t (k + 1)).out.lreq = none ∧ (t (k + 1)).out.completed = false) ∧
    (t n).err = (t 0).err ∧ (t n).errInfo = (t 0).errInfo ∧ (t n).rep = (t 0).rep ∧ (t n).symIdx = (t 0).symIdx ∧
    (t n).phase = (t 0).phase ∧ (t n).setcnt = (t 0).setcnt ∧ (t n).isOpen = (t 0).isOpen ∧
    (t n).lineValid = (t 0).lineValid ∧ (t n).lineLevel = (t 0).lineLevel ∧ (t n).frame = (t 0).frame ∧
    (t n).activePl = (t 0).activePl ∧ (t n).activeLine = (t 0).activeLine

/-- The result codes of 60_exceptions.md R171. -/
def Obligations.ResultCodes : Prop :=
  Result.ok.code = 0#4 ∧ Result.illegalOp.code = 1#4 ∧ Result.illegalOperand.code = 2#4 ∧ Result.notOpen.code = 3#4 ∧
  Result.alreadyOpen.code = 4#4 ∧ Result.cfgPin.code = 5#4 ∧ Result.cfgPulse.code = 6#4 ∧ Result.range.code = 7#4 ∧
  Result.line.code = 8#4
end

