-- ==== Sys2Proof/Laws/State.lean ====
section
/-! SUPPORT. What each shared update does to each field of State, one lemma per field per update, true by rfl. -/

namespace Sys2Proof.Machine

@[simp] theorem complete_cfg (r : Result) (s : State) : (complete r s).cfg = s.cfg := rfl
@[simp] theorem complete_ie (r : Result) (s : State) : (complete r s).ie = s.ie := rfl
@[simp] theorem complete_isOpen (r : Result) (s : State) : (complete r s).isOpen = s.isOpen := rfl
@[simp] theorem complete_done (r : Result) (s : State) : (complete r s).done = true := rfl
@[simp] theorem complete_rej (r : Result) (s : State) : (complete r s).rej = s.rej := rfl
@[simp] theorem complete_err (r : Result) (s : State) : (complete r s).err = r := rfl
@[simp] theorem complete_phase (r : Result) (s : State) : (complete r s).phase = s.phase := rfl
@[simp] theorem complete_lineValid (r : Result) (s : State) : (complete r s).lineValid = s.lineValid := rfl
@[simp] theorem complete_lineLevel (r : Result) (s : State) : (complete r s).lineLevel = s.lineLevel := rfl
@[simp] theorem complete_symIdx (r : Result) (s : State) : (complete r s).symIdx = s.symIdx := rfl
@[simp] theorem complete_rep (r : Result) (s : State) : (complete r s).rep = s.rep := rfl
@[simp] theorem complete_code (r : Result) (s : State) : (complete r s).code = s.code := rfl
@[simp] theorem complete_pulseLen (r : Result) (s : State) : (complete r s).pulseLen = s.pulseLen := rfl
@[simp] theorem complete_lineSel (r : Result) (s : State) : (complete r s).lineSel = s.lineSel := rfl
@[simp] theorem complete_activePl (r : Result) (s : State) : (complete r s).activePl = s.activePl := rfl
@[simp] theorem complete_activeLine (r : Result) (s : State) : (complete r s).activeLine = s.activeLine := rfl
@[simp] theorem complete_frame (r : Result) (s : State) : (complete r s).frame = s.frame := rfl
@[simp] theorem complete_setcnt (r : Result) (s : State) : (complete r s).setcnt = s.setcnt := rfl
@[simp] theorem complete_errInfo (r : Result) (s : State) : (complete r s).errInfo = s.errInfo := rfl
@[simp] theorem complete_usCount (r : Result) (s : State) : (complete r s).usCount = s.usCount := rfl
@[simp] theorem complete_fsm (r : Result) (s : State) : (complete r s).fsm = .idle := rfl
@[simp] theorem complete_op (r : Result) (s : State) : (complete r s).op = s.op := rfl
@[simp] theorem complete_v (r : Result) (s : State) : (complete r s).v = s.v := rfl
@[simp] theorem complete_h (r : Result) (s : State) : (complete r s).h = s.h := rfl
@[simp] theorem complete_l (r : Result) (s : State) : (complete r s).l = s.l := rfl
@[simp] theorem complete_rem (r : Result) (s : State) : (complete r s).rem = s.rem := rfl
@[simp] theorem complete_usPre (r : Result) (s : State) : (complete r s).usPre = s.usPre := rfl
@[simp] theorem complete_cyc (r : Result) (s : State) : (complete r s).cyc = s.cyc := rfl
@[simp] theorem complete_out (r : Result) (s : State) : (complete r s).out = { s.out with completed := true } := rfl
@[simp] theorem complete_inputs (r : Result) (s : State) : (complete r s).inputs = s.inputs := rfl

@[simp] theorem acceptClear_cfg (s : State) : (acceptClear s).cfg = s.cfg := rfl
@[simp] theorem acceptClear_ie (s : State) : (acceptClear s).ie = s.ie := rfl
@[simp] theorem acceptClear_isOpen (s : State) : (acceptClear s).isOpen = s.isOpen := rfl
@[simp] theorem acceptClear_done (s : State) : (acceptClear s).done = false := rfl
@[simp] theorem acceptClear_rej (s : State) : (acceptClear s).rej = s.rej := rfl
@[simp] theorem acceptClear_err (s : State) : (acceptClear s).err = .ok := rfl
@[simp] theorem acceptClear_phase (s : State) : (acceptClear s).phase = false := rfl
@[simp] theorem acceptClear_lineValid (s : State) : (acceptClear s).lineValid = s.lineValid := rfl
@[simp] theorem acceptClear_lineLevel (s : State) : (acceptClear s).lineLevel = s.lineLevel := rfl
@[simp] theorem acceptClear_symIdx (s : State) : (acceptClear s).symIdx = 0#5 := rfl
@[simp] theorem acceptClear_rep (s : State) : (acceptClear s).rep = 0#4 := rfl
@[simp] theorem acceptClear_code (s : State) : (acceptClear s).code = s.code := rfl
@[simp] theorem acceptClear_pulseLen (s : State) : (acceptClear s).pulseLen = s.pulseLen := rfl
@[simp] theorem acceptClear_lineSel (s : State) : (acceptClear s).lineSel = s.lineSel := rfl
@[simp] theorem acceptClear_activePl (s : State) : (acceptClear s).activePl = s.activePl := rfl
@[simp] theorem acceptClear_activeLine (s : State) : (acceptClear s).activeLine = s.activeLine := rfl
@[simp] theorem acceptClear_frame (s : State) : (acceptClear s).frame = s.frame := rfl
@[simp] theorem acceptClear_setcnt (s : State) : (acceptClear s).setcnt = 0#32 := rfl
@[simp] theorem acceptClear_errInfo (s : State) : (acceptClear s).errInfo = 0#32 := rfl
@[simp] theorem acceptClear_usCount (s : State) : (acceptClear s).usCount = s.usCount := rfl
@[simp] theorem acceptClear_fsm (s : State) : (acceptClear s).fsm = s.fsm := rfl
@[simp] theorem acceptClear_op (s : State) : (acceptClear s).op = s.op := rfl
@[simp] theorem acceptClear_v (s : State) : (acceptClear s).v = s.v := rfl
@[simp] theorem acceptClear_h (s : State) : (acceptClear s).h = s.h := rfl
@[simp] theorem acceptClear_l (s : State) : (acceptClear s).l = s.l := rfl
@[simp] theorem acceptClear_rem (s : State) : (acceptClear s).rem = s.rem := rfl
@[simp] theorem acceptClear_usPre (s : State) : (acceptClear s).usPre = s.usPre := rfl
@[simp] theorem acceptClear_cyc (s : State) : (acceptClear s).cyc = s.cyc := rfl
@[simp] theorem acceptClear_out (s : State) : (acceptClear s).out = s.out := rfl
@[simp] theorem acceptClear_inputs (s : State) : (acceptClear s).inputs = s.inputs := rfl

@[simp] theorem lineReq_cfg (q : LineReq) (s : State) : (lineReq q s).cfg = s.cfg := rfl
@[simp] theorem lineReq_ie (q : LineReq) (s : State) : (lineReq q s).ie = s.ie := rfl
@[simp] theorem lineReq_isOpen (q : LineReq) (s : State) : (lineReq q s).isOpen = s.isOpen := rfl
@[simp] theorem lineReq_done (q : LineReq) (s : State) : (lineReq q s).done = s.done := rfl
@[simp] theorem lineReq_rej (q : LineReq) (s : State) : (lineReq q s).rej = s.rej := rfl
@[simp] theorem lineReq_err (q : LineReq) (s : State) : (lineReq q s).err = s.err := rfl
@[simp] theorem lineReq_phase (q : LineReq) (s : State) : (lineReq q s).phase = s.phase := rfl
@[simp] theorem lineReq_lineValid (q : LineReq) (s : State) : (lineReq q s).lineValid = s.lineValid := rfl
@[simp] theorem lineReq_lineLevel (q : LineReq) (s : State) : (lineReq q s).lineLevel = s.lineLevel := rfl
@[simp] theorem lineReq_symIdx (q : LineReq) (s : State) : (lineReq q s).symIdx = s.symIdx := rfl
@[simp] theorem lineReq_rep (q : LineReq) (s : State) : (lineReq q s).rep = s.rep := rfl
@[simp] theorem lineReq_code (q : LineReq) (s : State) : (lineReq q s).code = s.code := rfl
@[simp] theorem lineReq_pulseLen (q : LineReq) (s : State) : (lineReq q s).pulseLen = s.pulseLen := rfl
@[simp] theorem lineReq_lineSel (q : LineReq) (s : State) : (lineReq q s).lineSel = s.lineSel := rfl
@[simp] theorem lineReq_activePl (q : LineReq) (s : State) : (lineReq q s).activePl = s.activePl := rfl
@[simp] theorem lineReq_activeLine (q : LineReq) (s : State) : (lineReq q s).activeLine = s.activeLine := rfl
@[simp] theorem lineReq_frame (q : LineReq) (s : State) : (lineReq q s).frame = s.frame := rfl
@[simp] theorem lineReq_setcnt (q : LineReq) (s : State) : (lineReq q s).setcnt = s.setcnt := rfl
@[simp] theorem lineReq_errInfo (q : LineReq) (s : State) : (lineReq q s).errInfo = s.errInfo := rfl
@[simp] theorem lineReq_usCount (q : LineReq) (s : State) : (lineReq q s).usCount = s.usCount := rfl
@[simp] theorem lineReq_fsm (q : LineReq) (s : State) : (lineReq q s).fsm = s.fsm := rfl
@[simp] theorem lineReq_op (q : LineReq) (s : State) : (lineReq q s).op = s.op := rfl
@[simp] theorem lineReq_v (q : LineReq) (s : State) : (lineReq q s).v = s.v := rfl
@[simp] theorem lineReq_h (q : LineReq) (s : State) : (lineReq q s).h = s.h := rfl
@[simp] theorem lineReq_l (q : LineReq) (s : State) : (lineReq q s).l = s.l := rfl
@[simp] theorem lineReq_rem (q : LineReq) (s : State) : (lineReq q s).rem = s.rem := rfl
@[simp] theorem lineReq_usPre (q : LineReq) (s : State) : (lineReq q s).usPre = s.usPre := rfl
@[simp] theorem lineReq_cyc (q : LineReq) (s : State) : (lineReq q s).cyc = s.cyc := rfl
@[simp] theorem lineReq_out (q : LineReq) (s : State) : (lineReq q s).out = { s.out with lreq := some q } := rfl
@[simp] theorem lineReq_inputs (q : LineReq) (s : State) : (lineReq q s).inputs = s.inputs := rfl

@[simp] theorem issueSet_cfg (b : Level) (s : State) : (issueSet b s).cfg = s.cfg := rfl
@[simp] theorem issueSet_ie (b : Level) (s : State) : (issueSet b s).ie = s.ie := rfl
@[simp] theorem issueSet_isOpen (b : Level) (s : State) : (issueSet b s).isOpen = s.isOpen := rfl
@[simp] theorem issueSet_done (b : Level) (s : State) : (issueSet b s).done = s.done := rfl
@[simp] theorem issueSet_rej (b : Level) (s : State) : (issueSet b s).rej = s.rej := rfl
@[simp] theorem issueSet_err (b : Level) (s : State) : (issueSet b s).err = s.err := rfl
@[simp] theorem issueSet_phase (b : Level) (s : State) : (issueSet b s).phase = s.phase := rfl
@[simp] theorem issueSet_lineValid (b : Level) (s : State) : (issueSet b s).lineValid = s.lineValid := rfl
@[simp] theorem issueSet_lineLevel (b : Level) (s : State) : (issueSet b s).lineLevel = s.lineLevel := rfl
@[simp] theorem issueSet_symIdx (b : Level) (s : State) : (issueSet b s).symIdx = s.symIdx := rfl
@[simp] theorem issueSet_rep (b : Level) (s : State) : (issueSet b s).rep = s.rep := rfl
@[simp] theorem issueSet_code (b : Level) (s : State) : (issueSet b s).code = s.code := rfl
@[simp] theorem issueSet_pulseLen (b : Level) (s : State) : (issueSet b s).pulseLen = s.pulseLen := rfl
@[simp] theorem issueSet_lineSel (b : Level) (s : State) : (issueSet b s).lineSel = s.lineSel := rfl
@[simp] theorem issueSet_activePl (b : Level) (s : State) : (issueSet b s).activePl = s.activePl := rfl
@[simp] theorem issueSet_activeLine (b : Level) (s : State) : (issueSet b s).activeLine = s.activeLine := rfl
@[simp] theorem issueSet_frame (b : Level) (s : State) : (issueSet b s).frame = s.frame := rfl
@[simp] theorem issueSet_setcnt (b : Level) (s : State) : (issueSet b s).setcnt = s.setcnt + 1#32 := rfl
@[simp] theorem issueSet_errInfo (b : Level) (s : State) : (issueSet b s).errInfo = s.errInfo := rfl
@[simp] theorem issueSet_usCount (b : Level) (s : State) : (issueSet b s).usCount = s.usCount := rfl
@[simp] theorem issueSet_fsm (b : Level) (s : State) : (issueSet b s).fsm = s.fsm := rfl
@[simp] theorem issueSet_op (b : Level) (s : State) : (issueSet b s).op = s.op := rfl
@[simp] theorem issueSet_v (b : Level) (s : State) : (issueSet b s).v = s.v := rfl
@[simp] theorem issueSet_h (b : Level) (s : State) : (issueSet b s).h = s.h := rfl
@[simp] theorem issueSet_l (b : Level) (s : State) : (issueSet b s).l = s.l := rfl
@[simp] theorem issueSet_rem (b : Level) (s : State) : (issueSet b s).rem = s.rem := rfl
@[simp] theorem issueSet_usPre (b : Level) (s : State) : (issueSet b s).usPre = s.usPre := rfl
@[simp] theorem issueSet_cyc (b : Level) (s : State) : (issueSet b s).cyc = s.cyc := rfl
@[simp] theorem issueSet_out (b : Level) (s : State) : (issueSet b s).out = { s.out with lreq := some (.setLine b) } := rfl
@[simp] theorem issueSet_inputs (b : Level) (s : State) : (issueSet b s).inputs = s.inputs := rfl

@[simp] theorem recordLevel_cfg (b : Level) (s : State) : (recordLevel b s).cfg = s.cfg := rfl
@[simp] theorem recordLevel_ie (b : Level) (s : State) : (recordLevel b s).ie = s.ie := rfl
@[simp] theorem recordLevel_isOpen (b : Level) (s : State) : (recordLevel b s).isOpen = s.isOpen := rfl
@[simp] theorem recordLevel_done (b : Level) (s : State) : (recordLevel b s).done = s.done := rfl
@[simp] theorem recordLevel_rej (b : Level) (s : State) : (recordLevel b s).rej = s.rej := rfl
@[simp] theorem recordLevel_err (b : Level) (s : State) : (recordLevel b s).err = s.err := rfl
@[simp] theorem recordLevel_phase (b : Level) (s : State) : (recordLevel b s).phase = s.phase := rfl
@[simp] theorem recordLevel_lineValid (b : Level) (s : State) : (recordLevel b s).lineValid = true := rfl
@[simp] theorem recordLevel_lineLevel (b : Level) (s : State) : (recordLevel b s).lineLevel = b := rfl
@[simp] theorem recordLevel_symIdx (b : Level) (s : State) : (recordLevel b s).symIdx = s.symIdx := rfl
@[simp] theorem recordLevel_rep (b : Level) (s : State) : (recordLevel b s).rep = s.rep := rfl
@[simp] theorem recordLevel_code (b : Level) (s : State) : (recordLevel b s).code = s.code := rfl
@[simp] theorem recordLevel_pulseLen (b : Level) (s : State) : (recordLevel b s).pulseLen = s.pulseLen := rfl
@[simp] theorem recordLevel_lineSel (b : Level) (s : State) : (recordLevel b s).lineSel = s.lineSel := rfl
@[simp] theorem recordLevel_activePl (b : Level) (s : State) : (recordLevel b s).activePl = s.activePl := rfl
@[simp] theorem recordLevel_activeLine (b : Level) (s : State) : (recordLevel b s).activeLine = s.activeLine := rfl
@[simp] theorem recordLevel_frame (b : Level) (s : State) : (recordLevel b s).frame = s.frame := rfl
@[simp] theorem recordLevel_setcnt (b : Level) (s : State) : (recordLevel b s).setcnt = s.setcnt := rfl
@[simp] theorem recordLevel_errInfo (b : Level) (s : State) : (recordLevel b s).errInfo = s.errInfo := rfl
@[simp] theorem recordLevel_usCount (b : Level) (s : State) : (recordLevel b s).usCount = s.usCount := rfl
@[simp] theorem recordLevel_fsm (b : Level) (s : State) : (recordLevel b s).fsm = s.fsm := rfl
@[simp] theorem recordLevel_op (b : Level) (s : State) : (recordLevel b s).op = s.op := rfl
@[simp] theorem recordLevel_v (b : Level) (s : State) : (recordLevel b s).v = s.v := rfl
@[simp] theorem recordLevel_h (b : Level) (s : State) : (recordLevel b s).h = s.h := rfl
@[simp] theorem recordLevel_l (b : Level) (s : State) : (recordLevel b s).l = s.l := rfl
@[simp] theorem recordLevel_rem (b : Level) (s : State) : (recordLevel b s).rem = s.rem := rfl
@[simp] theorem recordLevel_usPre (b : Level) (s : State) : (recordLevel b s).usPre = s.usPre := rfl
@[simp] theorem recordLevel_cyc (b : Level) (s : State) : (recordLevel b s).cyc = s.cyc := rfl
@[simp] theorem recordLevel_out (b : Level) (s : State) : (recordLevel b s).out = s.out := rfl
@[simp] theorem recordLevel_inputs (b : Level) (s : State) : (recordLevel b s).inputs = s.inputs := rfl

@[simp] theorem lineFail_cfg (k : ReqKind) (b : Level) (s : State) : (lineFail k b s).cfg = s.cfg := rfl
@[simp] theorem lineFail_ie (k : ReqKind) (b : Level) (s : State) : (lineFail k b s).ie = s.ie := rfl
@[simp] theorem lineFail_isOpen (k : ReqKind) (b : Level) (s : State) : (lineFail k b s).isOpen = s.isOpen := rfl
@[simp] theorem lineFail_done (k : ReqKind) (b : Level) (s : State) : (lineFail k b s).done = true := rfl
@[simp] theorem lineFail_rej (k : ReqKind) (b : Level) (s : State) : (lineFail k b s).rej = s.rej := rfl
@[simp] theorem lineFail_err (k : ReqKind) (b : Level) (s : State) : (lineFail k b s).err = .line := rfl
@[simp] theorem lineFail_phase (k : ReqKind) (b : Level) (s : State) : (lineFail k b s).phase = s.phase := rfl
@[simp] theorem lineFail_lineValid (k : ReqKind) (b : Level) (s : State) : (lineFail k b s).lineValid = s.lineValid := rfl
@[simp] theorem lineFail_lineLevel (k : ReqKind) (b : Level) (s : State) : (lineFail k b s).lineLevel = s.lineLevel := rfl
@[simp] theorem lineFail_symIdx (k : ReqKind) (b : Level) (s : State) : (lineFail k b s).symIdx = s.symIdx := rfl
@[simp] theorem lineFail_rep (k : ReqKind) (b : Level) (s : State) : (lineFail k b s).rep = s.rep := rfl
@[simp] theorem lineFail_code (k : ReqKind) (b : Level) (s : State) : (lineFail k b s).code = s.code := rfl
@[simp] theorem lineFail_pulseLen (k : ReqKind) (b : Level) (s : State) : (lineFail k b s).pulseLen = s.pulseLen := rfl
@[simp] theorem lineFail_lineSel (k : ReqKind) (b : Level) (s : State) : (lineFail k b s).lineSel = s.lineSel := rfl
@[simp] theorem lineFail_activePl (k : ReqKind) (b : Level) (s : State) : (lineFail k b s).activePl = s.activePl := rfl
@[simp] theorem lineFail_activeLine (k : ReqKind) (b : Level) (s : State) : (lineFail k b s).activeLine = s.activeLine := rfl
@[simp] theorem lineFail_frame (k : ReqKind) (b : Level) (s : State) : (lineFail k b s).frame = s.frame := rfl
@[simp] theorem lineFail_setcnt (k : ReqKind) (b : Level) (s : State) : (lineFail k b s).setcnt = s.setcnt := rfl
@[simp] theorem lineFail_errInfo (k : ReqKind) (b : Level) (s : State) : (lineFail k b s).errInfo = errInfoWord k b s.activeLine := rfl
@[simp] theorem lineFail_usCount (k : ReqKind) (b : Level) (s : State) : (lineFail k b s).usCount = s.usCount := rfl
@[simp] theorem lineFail_fsm (k : ReqKind) (b : Level) (s : State) : (lineFail k b s).fsm = .idle := rfl
@[simp] theorem lineFail_op (k : ReqKind) (b : Level) (s : State) : (lineFail k b s).op = s.op := rfl
@[simp] theorem lineFail_v (k : ReqKind) (b : Level) (s : State) : (lineFail k b s).v = s.v := rfl
@[simp] theorem lineFail_h (k : ReqKind) (b : Level) (s : State) : (lineFail k b s).h = s.h := rfl
@[simp] theorem lineFail_l (k : ReqKind) (b : Level) (s : State) : (lineFail k b s).l = s.l := rfl
@[simp] theorem lineFail_rem (k : ReqKind) (b : Level) (s : State) : (lineFail k b s).rem = s.rem := rfl
@[simp] theorem lineFail_usPre (k : ReqKind) (b : Level) (s : State) : (lineFail k b s).usPre = s.usPre := rfl
@[simp] theorem lineFail_cyc (k : ReqKind) (b : Level) (s : State) : (lineFail k b s).cyc = s.cyc := rfl
@[simp] theorem lineFail_out (k : ReqKind) (b : Level) (s : State) : (lineFail k b s).out = { s.out with completed := true } := rfl
@[simp] theorem lineFail_inputs (k : ReqKind) (b : Level) (s : State) : (lineFail k b s).inputs = s.inputs := rfl

@[simp] theorem startPhase_cfg (u : BitVec 8) (s : State) : (startPhase u s).cfg = s.cfg := rfl
@[simp] theorem startPhase_ie (u : BitVec 8) (s : State) : (startPhase u s).ie = s.ie := rfl
@[simp] theorem startPhase_isOpen (u : BitVec 8) (s : State) : (startPhase u s).isOpen = s.isOpen := rfl
@[simp] theorem startPhase_done (u : BitVec 8) (s : State) : (startPhase u s).done = s.done := rfl
@[simp] theorem startPhase_rej (u : BitVec 8) (s : State) : (startPhase u s).rej = s.rej := rfl
@[simp] theorem startPhase_err (u : BitVec 8) (s : State) : (startPhase u s).err = s.err := rfl
@[simp] theorem startPhase_phase (u : BitVec 8) (s : State) : (startPhase u s).phase = s.phase := rfl
@[simp] theorem startPhase_lineValid (u : BitVec 8) (s : State) : (startPhase u s).lineValid = s.lineValid := rfl
@[simp] theorem startPhase_lineLevel (u : BitVec 8) (s : State) : (startPhase u s).lineLevel = s.lineLevel := rfl
@[simp] theorem startPhase_symIdx (u : BitVec 8) (s : State) : (startPhase u s).symIdx = s.symIdx := rfl
@[simp] theorem startPhase_rep (u : BitVec 8) (s : State) : (startPhase u s).rep = s.rep := rfl
@[simp] theorem startPhase_code (u : BitVec 8) (s : State) : (startPhase u s).code = s.code := rfl
@[simp] theorem startPhase_pulseLen (u : BitVec 8) (s : State) : (startPhase u s).pulseLen = s.pulseLen := rfl
@[simp] theorem startPhase_lineSel (u : BitVec 8) (s : State) : (startPhase u s).lineSel = s.lineSel := rfl
@[simp] theorem startPhase_activePl (u : BitVec 8) (s : State) : (startPhase u s).activePl = s.activePl := rfl
@[simp] theorem startPhase_activeLine (u : BitVec 8) (s : State) : (startPhase u s).activeLine = s.activeLine := rfl
@[simp] theorem startPhase_frame (u : BitVec 8) (s : State) : (startPhase u s).frame = s.frame := rfl
@[simp] theorem startPhase_setcnt (u : BitVec 8) (s : State) : (startPhase u s).setcnt = s.setcnt := rfl
@[simp] theorem startPhase_errInfo (u : BitVec 8) (s : State) : (startPhase u s).errInfo = s.errInfo := rfl
@[simp] theorem startPhase_usCount (u : BitVec 8) (s : State) : (startPhase u s).usCount = s.usCount := rfl
@[simp] theorem startPhase_fsm (u : BitVec 8) (s : State) : (startPhase u s).fsm = s.fsm := rfl
@[simp] theorem startPhase_op (u : BitVec 8) (s : State) : (startPhase u s).op = s.op := rfl
@[simp] theorem startPhase_v (u : BitVec 8) (s : State) : (startPhase u s).v = s.v := rfl
@[simp] theorem startPhase_h (u : BitVec 8) (s : State) : (startPhase u s).h = s.h := rfl
@[simp] theorem startPhase_l (u : BitVec 8) (s : State) : (startPhase u s).l = s.l := rfl
@[simp] theorem startPhase_rem (u : BitVec 8) (s : State) : (startPhase u s).rem = u.toNat * s.activePl.toNat * s.cfg.clkPerUs := rfl
@[simp] theorem startPhase_usPre (u : BitVec 8) (s : State) : (startPhase u s).usPre = s.usPre := rfl
@[simp] theorem startPhase_cyc (u : BitVec 8) (s : State) : (startPhase u s).cyc = s.cyc := rfl
@[simp] theorem startPhase_out (u : BitVec 8) (s : State) : (startPhase u s).out = s.out := rfl
@[simp] theorem startPhase_inputs (u : BitVec 8) (s : State) : (startPhase u s).inputs = s.inputs := rfl

@[simp] theorem startPulse_cfg (x y : BitVec 8) (s : State) : (startPulse x y s).cfg = s.cfg := rfl
@[simp] theorem startPulse_ie (x y : BitVec 8) (s : State) : (startPulse x y s).ie = s.ie := rfl
@[simp] theorem startPulse_isOpen (x y : BitVec 8) (s : State) : (startPulse x y s).isOpen = s.isOpen := rfl
@[simp] theorem startPulse_done (x y : BitVec 8) (s : State) : (startPulse x y s).done = s.done := rfl
@[simp] theorem startPulse_rej (x y : BitVec 8) (s : State) : (startPulse x y s).rej = s.rej := rfl
@[simp] theorem startPulse_err (x y : BitVec 8) (s : State) : (startPulse x y s).err = s.err := rfl
@[simp] theorem startPulse_phase (x y : BitVec 8) (s : State) : (startPulse x y s).phase = false := rfl
@[simp] theorem startPulse_lineValid (x y : BitVec 8) (s : State) : (startPulse x y s).lineValid = s.lineValid := rfl
@[simp] theorem startPulse_lineLevel (x y : BitVec 8) (s : State) : (startPulse x y s).lineLevel = s.lineLevel := rfl
@[simp] theorem startPulse_symIdx (x y : BitVec 8) (s : State) : (startPulse x y s).symIdx = s.symIdx := rfl
@[simp] theorem startPulse_rep (x y : BitVec 8) (s : State) : (startPulse x y s).rep = s.rep := rfl
@[simp] theorem startPulse_code (x y : BitVec 8) (s : State) : (startPulse x y s).code = s.code := rfl
@[simp] theorem startPulse_pulseLen (x y : BitVec 8) (s : State) : (startPulse x y s).pulseLen = s.pulseLen := rfl
@[simp] theorem startPulse_lineSel (x y : BitVec 8) (s : State) : (startPulse x y s).lineSel = s.lineSel := rfl
@[simp] theorem startPulse_activePl (x y : BitVec 8) (s : State) : (startPulse x y s).activePl = s.activePl := rfl
@[simp] theorem startPulse_activeLine (x y : BitVec 8) (s : State) : (startPulse x y s).activeLine = s.activeLine := rfl
@[simp] theorem startPulse_frame (x y : BitVec 8) (s : State) : (startPulse x y s).frame = s.frame := rfl
@[simp] theorem startPulse_setcnt (x y : BitVec 8) (s : State) : (startPulse x y s).setcnt = s.setcnt + 1#32 := rfl
@[simp] theorem startPulse_errInfo (x y : BitVec 8) (s : State) : (startPulse x y s).errInfo = s.errInfo := rfl
@[simp] theorem startPulse_usCount (x y : BitVec 8) (s : State) : (startPulse x y s).usCount = s.usCount := rfl
@[simp] theorem startPulse_fsm (x y : BitVec 8) (s : State) : (startPulse x y s).fsm = .wSetH := rfl
@[simp] theorem startPulse_op (x y : BitVec 8) (s : State) : (startPulse x y s).op = s.op := rfl
@[simp] theorem startPulse_v (x y : BitVec 8) (s : State) : (startPulse x y s).v = s.v := rfl
@[simp] theorem startPulse_h (x y : BitVec 8) (s : State) : (startPulse x y s).h = x := rfl
@[simp] theorem startPulse_l (x y : BitVec 8) (s : State) : (startPulse x y s).l = y := rfl
@[simp] theorem startPulse_rem (x y : BitVec 8) (s : State) : (startPulse x y s).rem = s.rem := rfl
@[simp] theorem startPulse_usPre (x y : BitVec 8) (s : State) : (startPulse x y s).usPre = s.usPre := rfl
@[simp] theorem startPulse_cyc (x y : BitVec 8) (s : State) : (startPulse x y s).cyc = s.cyc := rfl
@[simp] theorem startPulse_out (x y : BitVec 8) (s : State) : (startPulse x y s).out = { s.out with lreq := some (.setLine true) } := rfl
@[simp] theorem startPulse_inputs (x y : BitVec 8) (s : State) : (startPulse x y s).inputs = s.inputs := rfl

@[simp] theorem nextSymbol_cfg (s : State) : (nextSymbol s).cfg = s.cfg := rfl
@[simp] theorem nextSymbol_ie (s : State) : (nextSymbol s).ie = s.ie := rfl
@[simp] theorem nextSymbol_isOpen (s : State) : (nextSymbol s).isOpen = s.isOpen := rfl
@[simp] theorem nextSymbol_done (s : State) : (nextSymbol s).done = s.done := rfl
@[simp] theorem nextSymbol_rej (s : State) : (nextSymbol s).rej = s.rej := rfl
@[simp] theorem nextSymbol_err (s : State) : (nextSymbol s).err = s.err := rfl
@[simp] theorem nextSymbol_phase (s : State) : (nextSymbol s).phase = s.phase := rfl
@[simp] theorem nextSymbol_lineValid (s : State) : (nextSymbol s).lineValid = s.lineValid := rfl
@[simp] theorem nextSymbol_lineLevel (s : State) : (nextSymbol s).lineLevel = s.lineLevel := rfl
@[simp] theorem nextSymbol_symIdx (s : State) : (nextSymbol s).symIdx = if s.symIdx = 24#5 then 0#5 else s.symIdx + 1#5 := rfl
@[simp] theorem nextSymbol_rep (s : State) : (nextSymbol s).rep = if s.symIdx = 24#5 then s.rep + 1#4 else s.rep := rfl
@[simp] theorem nextSymbol_code (s : State) : (nextSymbol s).code = s.code := rfl
@[simp] theorem nextSymbol_pulseLen (s : State) : (nextSymbol s).pulseLen = s.pulseLen := rfl
@[simp] theorem nextSymbol_lineSel (s : State) : (nextSymbol s).lineSel = s.lineSel := rfl
@[simp] theorem nextSymbol_activePl (s : State) : (nextSymbol s).activePl = s.activePl := rfl
@[simp] theorem nextSymbol_activeLine (s : State) : (nextSymbol s).activeLine = s.activeLine := rfl
@[simp] theorem nextSymbol_frame (s : State) : (nextSymbol s).frame = s.frame := rfl
@[simp] theorem nextSymbol_setcnt (s : State) : (nextSymbol s).setcnt = s.setcnt := rfl
@[simp] theorem nextSymbol_errInfo (s : State) : (nextSymbol s).errInfo = s.errInfo := rfl
@[simp] theorem nextSymbol_usCount (s : State) : (nextSymbol s).usCount = s.usCount := rfl
@[simp] theorem nextSymbol_fsm (s : State) : (nextSymbol s).fsm = s.fsm := rfl
@[simp] theorem nextSymbol_op (s : State) : (nextSymbol s).op = s.op := rfl
@[simp] theorem nextSymbol_v (s : State) : (nextSymbol s).v = s.v := rfl
@[simp] theorem nextSymbol_h (s : State) : (nextSymbol s).h = s.h := rfl
@[simp] theorem nextSymbol_l (s : State) : (nextSymbol s).l = s.l := rfl
@[simp] theorem nextSymbol_rem (s : State) : (nextSymbol s).rem = s.rem := rfl
@[simp] theorem nextSymbol_usPre (s : State) : (nextSymbol s).usPre = s.usPre := rfl
@[simp] theorem nextSymbol_cyc (s : State) : (nextSymbol s).cyc = s.cyc := rfl
@[simp] theorem nextSymbol_out (s : State) : (nextSymbol s).out = s.out := rfl
@[simp] theorem nextSymbol_inputs (s : State) : (nextSymbol s).inputs = s.inputs := rfl

@[simp] theorem startSymbol_cfg (s : State) : (startSymbol s).cfg = s.cfg := rfl
@[simp] theorem startSymbol_ie (s : State) : (startSymbol s).ie = s.ie := rfl
@[simp] theorem startSymbol_isOpen (s : State) : (startSymbol s).isOpen = s.isOpen := rfl
@[simp] theorem startSymbol_done (s : State) : (startSymbol s).done = s.done := rfl
@[simp] theorem startSymbol_rej (s : State) : (startSymbol s).rej = s.rej := rfl
@[simp] theorem startSymbol_err (s : State) : (startSymbol s).err = s.err := rfl
@[simp] theorem startSymbol_phase (s : State) : (startSymbol s).phase = false := rfl
@[simp] theorem startSymbol_lineValid (s : State) : (startSymbol s).lineValid = s.lineValid := rfl
@[simp] theorem startSymbol_lineLevel (s : State) : (startSymbol s).lineLevel = s.lineLevel := rfl
@[simp] theorem startSymbol_symIdx (s : State) : (startSymbol s).symIdx = s.symIdx := rfl
@[simp] theorem startSymbol_rep (s : State) : (startSymbol s).rep = s.rep := rfl
@[simp] theorem startSymbol_code (s : State) : (startSymbol s).code = s.code := rfl
@[simp] theorem startSymbol_pulseLen (s : State) : (startSymbol s).pulseLen = s.pulseLen := rfl
@[simp] theorem startSymbol_lineSel (s : State) : (startSymbol s).lineSel = s.lineSel := rfl
@[simp] theorem startSymbol_activePl (s : State) : (startSymbol s).activePl = s.activePl := rfl
@[simp] theorem startSymbol_activeLine (s : State) : (startSymbol s).activeLine = s.activeLine := rfl
@[simp] theorem startSymbol_frame (s : State) : (startSymbol s).frame = s.frame := rfl
@[simp] theorem startSymbol_setcnt (s : State) : (startSymbol s).setcnt = s.setcnt + 1#32 := rfl
@[simp] theorem startSymbol_errInfo (s : State) : (startSymbol s).errInfo = s.errInfo := rfl
@[simp] theorem startSymbol_usCount (s : State) : (startSymbol s).usCount = s.usCount := rfl
@[simp] theorem startSymbol_fsm (s : State) : (startSymbol s).fsm = .wSetH := rfl
@[simp] theorem startSymbol_op (s : State) : (startSymbol s).op = s.op := rfl
@[simp] theorem startSymbol_v (s : State) : (startSymbol s).v = s.v := rfl
@[simp] theorem startSymbol_h (s : State) : (startSymbol s).h = (ratio (symAt s.frame s.symIdx.toNat)).1 := rfl
@[simp] theorem startSymbol_l (s : State) : (startSymbol s).l = (ratio (symAt s.frame s.symIdx.toNat)).2 := rfl
@[simp] theorem startSymbol_rem (s : State) : (startSymbol s).rem = s.rem := rfl
@[simp] theorem startSymbol_usPre (s : State) : (startSymbol s).usPre = s.usPre := rfl
@[simp] theorem startSymbol_cyc (s : State) : (startSymbol s).cyc = s.cyc := rfl
@[simp] theorem startSymbol_out (s : State) : (startSymbol s).out = { s.out with lreq := some (.setLine true) } := rfl
@[simp] theorem startSymbol_inputs (s : State) : (startSymbol s).inputs = s.inputs := rfl

@[simp] theorem closeBlock_cfg (s : State) : (closeBlock s).cfg = s.cfg := rfl
@[simp] theorem closeBlock_ie (s : State) : (closeBlock s).ie = s.ie := rfl
@[simp] theorem closeBlock_isOpen (s : State) : (closeBlock s).isOpen = false := rfl
@[simp] theorem closeBlock_done (s : State) : (closeBlock s).done = s.done := rfl
@[simp] theorem closeBlock_rej (s : State) : (closeBlock s).rej = s.rej := rfl
@[simp] theorem closeBlock_err (s : State) : (closeBlock s).err = s.err := rfl
@[simp] theorem closeBlock_phase (s : State) : (closeBlock s).phase = s.phase := rfl
@[simp] theorem closeBlock_lineValid (s : State) : (closeBlock s).lineValid = false := rfl
@[simp] theorem closeBlock_lineLevel (s : State) : (closeBlock s).lineLevel = s.lineLevel := rfl
@[simp] theorem closeBlock_symIdx (s : State) : (closeBlock s).symIdx = s.symIdx := rfl
@[simp] theorem closeBlock_rep (s : State) : (closeBlock s).rep = s.rep := rfl
@[simp] theorem closeBlock_code (s : State) : (closeBlock s).code = s.code := rfl
@[simp] theorem closeBlock_pulseLen (s : State) : (closeBlock s).pulseLen = s.pulseLen := rfl
@[simp] theorem closeBlock_lineSel (s : State) : (closeBlock s).lineSel = s.lineSel := rfl
@[simp] theorem closeBlock_activePl (s : State) : (closeBlock s).activePl = s.activePl := rfl
@[simp] theorem closeBlock_activeLine (s : State) : (closeBlock s).activeLine = s.activeLine := rfl
@[simp] theorem closeBlock_frame (s : State) : (closeBlock s).frame = s.frame := rfl
@[simp] theorem closeBlock_setcnt (s : State) : (closeBlock s).setcnt = s.setcnt := rfl
@[simp] theorem closeBlock_errInfo (s : State) : (closeBlock s).errInfo = s.errInfo := rfl
@[simp] theorem closeBlock_usCount (s : State) : (closeBlock s).usCount = s.usCount := rfl
@[simp] theorem closeBlock_fsm (s : State) : (closeBlock s).fsm = s.fsm := rfl
@[simp] theorem closeBlock_op (s : State) : (closeBlock s).op = s.op := rfl
@[simp] theorem closeBlock_v (s : State) : (closeBlock s).v = s.v := rfl
@[simp] theorem closeBlock_h (s : State) : (closeBlock s).h = s.h := rfl
@[simp] theorem closeBlock_l (s : State) : (closeBlock s).l = s.l := rfl
@[simp] theorem closeBlock_rem (s : State) : (closeBlock s).rem = s.rem := rfl
@[simp] theorem closeBlock_usPre (s : State) : (closeBlock s).usPre = s.usPre := rfl
@[simp] theorem closeBlock_cyc (s : State) : (closeBlock s).cyc = s.cyc := rfl
@[simp] theorem closeBlock_out (s : State) : (closeBlock s).out = s.out := rfl
@[simp] theorem closeBlock_inputs (s : State) : (closeBlock s).inputs = s.inputs := rfl

@[simp] theorem reject_cfg (s : State) : (reject s).cfg = s.cfg := rfl
@[simp] theorem reject_ie (s : State) : (reject s).ie = s.ie := rfl
@[simp] theorem reject_isOpen (s : State) : (reject s).isOpen = s.isOpen := rfl
@[simp] theorem reject_done (s : State) : (reject s).done = s.done := rfl
@[simp] theorem reject_rej (s : State) : (reject s).rej = true := rfl
@[simp] theorem reject_err (s : State) : (reject s).err = s.err := rfl
@[simp] theorem reject_phase (s : State) : (reject s).phase = s.phase := rfl
@[simp] theorem reject_lineValid (s : State) : (reject s).lineValid = s.lineValid := rfl
@[simp] theorem reject_lineLevel (s : State) : (reject s).lineLevel = s.lineLevel := rfl
@[simp] theorem reject_symIdx (s : State) : (reject s).symIdx = s.symIdx := rfl
@[simp] theorem reject_rep (s : State) : (reject s).rep = s.rep := rfl
@[simp] theorem reject_code (s : State) : (reject s).code = s.code := rfl
@[simp] theorem reject_pulseLen (s : State) : (reject s).pulseLen = s.pulseLen := rfl
@[simp] theorem reject_lineSel (s : State) : (reject s).lineSel = s.lineSel := rfl
@[simp] theorem reject_activePl (s : State) : (reject s).activePl = s.activePl := rfl
@[simp] theorem reject_activeLine (s : State) : (reject s).activeLine = s.activeLine := rfl
@[simp] theorem reject_frame (s : State) : (reject s).frame = s.frame := rfl
@[simp] theorem reject_setcnt (s : State) : (reject s).setcnt = s.setcnt := rfl
@[simp] theorem reject_errInfo (s : State) : (reject s).errInfo = s.errInfo := rfl
@[simp] theorem reject_usCount (s : State) : (reject s).usCount = s.usCount := rfl
@[simp] theorem reject_fsm (s : State) : (reject s).fsm = s.fsm := rfl
@[simp] theorem reject_op (s : State) : (reject s).op = s.op := rfl
@[simp] theorem reject_v (s : State) : (reject s).v = s.v := rfl
@[simp] theorem reject_h (s : State) : (reject s).h = s.h := rfl
@[simp] theorem reject_l (s : State) : (reject s).l = s.l := rfl
@[simp] theorem reject_rem (s : State) : (reject s).rem = s.rem := rfl
@[simp] theorem reject_usPre (s : State) : (reject s).usPre = s.usPre := rfl
@[simp] theorem reject_cyc (s : State) : (reject s).cyc = s.cyc := rfl
@[simp] theorem reject_out (s : State) : (reject s).out = s.out := rfl
@[simp] theorem reject_inputs (s : State) : (reject s).inputs = s.inputs := rfl

@[simp] theorem writeStatus_cfg (w : Word) (s : State) : (writeStatus w s).cfg = s.cfg := rfl
@[simp] theorem writeStatus_ie (w : Word) (s : State) : (writeStatus w s).ie = s.ie := rfl
@[simp] theorem writeStatus_isOpen (w : Word) (s : State) : (writeStatus w s).isOpen = s.isOpen := rfl
@[simp] theorem writeStatus_done (w : Word) (s : State) : (writeStatus w s).done = if w.getLsbD 2 && !s.out.completed then false else s.done := rfl
@[simp] theorem writeStatus_rej (w : Word) (s : State) : (writeStatus w s).rej = if w.getLsbD 3 then false else s.rej := rfl
@[simp] theorem writeStatus_err (w : Word) (s : State) : (writeStatus w s).err = s.err := rfl
@[simp] theorem writeStatus_phase (w : Word) (s : State) : (writeStatus w s).phase = s.phase := rfl
@[simp] theorem writeStatus_lineValid (w : Word) (s : State) : (writeStatus w s).lineValid = s.lineValid := rfl
@[simp] theorem writeStatus_lineLevel (w : Word) (s : State) : (writeStatus w s).lineLevel = s.lineLevel := rfl
@[simp] theorem writeStatus_symIdx (w : Word) (s : State) : (writeStatus w s).symIdx = s.symIdx := rfl
@[simp] theorem writeStatus_rep (w : Word) (s : State) : (writeStatus w s).rep = s.rep := rfl
@[simp] theorem writeStatus_code (w : Word) (s : State) : (writeStatus w s).code = s.code := rfl
@[simp] theorem writeStatus_pulseLen (w : Word) (s : State) : (writeStatus w s).pulseLen = s.pulseLen := rfl
@[simp] theorem writeStatus_lineSel (w : Word) (s : State) : (writeStatus w s).lineSel = s.lineSel := rfl
@[simp] theorem writeStatus_activePl (w : Word) (s : State) : (writeStatus w s).activePl = s.activePl := rfl
@[simp] theorem writeStatus_activeLine (w : Word) (s : State) : (writeStatus w s).activeLine = s.activeLine := rfl
@[simp] theorem writeStatus_frame (w : Word) (s : State) : (writeStatus w s).frame = s.frame := rfl
@[simp] theorem writeStatus_setcnt (w : Word) (s : State) : (writeStatus w s).setcnt = s.setcnt := rfl
@[simp] theorem writeStatus_errInfo (w : Word) (s : State) : (writeStatus w s).errInfo = s.errInfo := rfl
@[simp] theorem writeStatus_usCount (w : Word) (s : State) : (writeStatus w s).usCount = s.usCount := rfl
@[simp] theorem writeStatus_fsm (w : Word) (s : State) : (writeStatus w s).fsm = s.fsm := rfl
@[simp] theorem writeStatus_op (w : Word) (s : State) : (writeStatus w s).op = s.op := rfl
@[simp] theorem writeStatus_v (w : Word) (s : State) : (writeStatus w s).v = s.v := rfl
@[simp] theorem writeStatus_h (w : Word) (s : State) : (writeStatus w s).h = s.h := rfl
@[simp] theorem writeStatus_l (w : Word) (s : State) : (writeStatus w s).l = s.l := rfl
@[simp] theorem writeStatus_rem (w : Word) (s : State) : (writeStatus w s).rem = s.rem := rfl
@[simp] theorem writeStatus_usPre (w : Word) (s : State) : (writeStatus w s).usPre = s.usPre := rfl
@[simp] theorem writeStatus_cyc (w : Word) (s : State) : (writeStatus w s).cyc = s.cyc := rfl
@[simp] theorem writeStatus_out (w : Word) (s : State) : (writeStatus w s).out = s.out := rfl
@[simp] theorem writeStatus_inputs (w : Word) (s : State) : (writeStatus w s).inputs = s.inputs := rfl

@[simp] theorem ticked_cfg (s : State) : (State.ticked s).cfg = s.cfg := rfl
@[simp] theorem ticked_ie (s : State) : (State.ticked s).ie = s.ie := rfl
@[simp] theorem ticked_isOpen (s : State) : (State.ticked s).isOpen = s.isOpen := rfl
@[simp] theorem ticked_done (s : State) : (State.ticked s).done = s.done := rfl
@[simp] theorem ticked_rej (s : State) : (State.ticked s).rej = s.rej := rfl
@[simp] theorem ticked_err (s : State) : (State.ticked s).err = s.err := rfl
@[simp] theorem ticked_phase (s : State) : (State.ticked s).phase = s.phase := rfl
@[simp] theorem ticked_lineValid (s : State) : (State.ticked s).lineValid = s.lineValid := rfl
@[simp] theorem ticked_lineLevel (s : State) : (State.ticked s).lineLevel = s.lineLevel := rfl
@[simp] theorem ticked_symIdx (s : State) : (State.ticked s).symIdx = s.symIdx := rfl
@[simp] theorem ticked_rep (s : State) : (State.ticked s).rep = s.rep := rfl
@[simp] theorem ticked_code (s : State) : (State.ticked s).code = s.code := rfl
@[simp] theorem ticked_pulseLen (s : State) : (State.ticked s).pulseLen = s.pulseLen := rfl
@[simp] theorem ticked_lineSel (s : State) : (State.ticked s).lineSel = s.lineSel := rfl
@[simp] theorem ticked_activePl (s : State) : (State.ticked s).activePl = s.activePl := rfl
@[simp] theorem ticked_activeLine (s : State) : (State.ticked s).activeLine = s.activeLine := rfl
@[simp] theorem ticked_frame (s : State) : (State.ticked s).frame = s.frame := rfl
@[simp] theorem ticked_setcnt (s : State) : (State.ticked s).setcnt = s.setcnt := rfl
@[simp] theorem ticked_errInfo (s : State) : (State.ticked s).errInfo = s.errInfo := rfl
@[simp] theorem ticked_usCount (s : State) : (State.ticked s).usCount = if s.usPre = 1 then s.usCount + 1#32 else s.usCount := rfl
@[simp] theorem ticked_fsm (s : State) : (State.ticked s).fsm = s.fsm := rfl
@[simp] theorem ticked_op (s : State) : (State.ticked s).op = s.op := rfl
@[simp] theorem ticked_v (s : State) : (State.ticked s).v = s.v := rfl
@[simp] theorem ticked_h (s : State) : (State.ticked s).h = s.h := rfl
@[simp] theorem ticked_l (s : State) : (State.ticked s).l = s.l := rfl
@[simp] theorem ticked_rem (s : State) : (State.ticked s).rem = s.rem := rfl
@[simp] theorem ticked_usPre (s : State) : (State.ticked s).usPre = if s.usPre = 1 then s.cfg.clkPerUs else s.usPre - 1 := rfl
@[simp] theorem ticked_cyc (s : State) : (State.ticked s).cyc = s.cyc + 1 := rfl
@[simp] theorem ticked_out (s : State) : (State.ticked s).out = .quiet := rfl
@[simp] theorem ticked_inputs (s : State) : (State.ticked s).inputs = s.inputs.tail := rfl

@[simp] theorem tick_cfg (s : State) : (tick s).cfg = s.cfg := rfl
@[simp] theorem tick_ie (s : State) : (tick s).ie = s.ie := rfl
@[simp] theorem tick_isOpen (s : State) : (tick s).isOpen = s.isOpen := rfl
@[simp] theorem tick_done (s : State) : (tick s).done = s.done := rfl
@[simp] theorem tick_rej (s : State) : (tick s).rej = s.rej := rfl
@[simp] theorem tick_err (s : State) : (tick s).err = s.err := rfl
@[simp] theorem tick_phase (s : State) : (tick s).phase = s.phase := rfl
@[simp] theorem tick_lineValid (s : State) : (tick s).lineValid = s.lineValid := rfl
@[simp] theorem tick_lineLevel (s : State) : (tick s).lineLevel = s.lineLevel := rfl
@[simp] theorem tick_symIdx (s : State) : (tick s).symIdx = s.symIdx := rfl
@[simp] theorem tick_rep (s : State) : (tick s).rep = s.rep := rfl
@[simp] theorem tick_code (s : State) : (tick s).code = s.code := rfl
@[simp] theorem tick_pulseLen (s : State) : (tick s).pulseLen = s.pulseLen := rfl
@[simp] theorem tick_lineSel (s : State) : (tick s).lineSel = s.lineSel := rfl
@[simp] theorem tick_activePl (s : State) : (tick s).activePl = s.activePl := rfl
@[simp] theorem tick_activeLine (s : State) : (tick s).activeLine = s.activeLine := rfl
@[simp] theorem tick_frame (s : State) : (tick s).frame = s.frame := rfl
@[simp] theorem tick_setcnt (s : State) : (tick s).setcnt = s.setcnt := rfl
@[simp] theorem tick_errInfo (s : State) : (tick s).errInfo = s.errInfo := rfl
@[simp] theorem tick_usCount (s : State) : (tick s).usCount = if s.usPre = 1 then s.usCount + 1#32 else s.usCount := rfl
@[simp] theorem tick_fsm (s : State) : (tick s).fsm = s.fsm := rfl
@[simp] theorem tick_op (s : State) : (tick s).op = s.op := rfl
@[simp] theorem tick_v (s : State) : (tick s).v = s.v := rfl
@[simp] theorem tick_h (s : State) : (tick s).h = s.h := rfl
@[simp] theorem tick_l (s : State) : (tick s).l = s.l := rfl
@[simp] theorem tick_rem (s : State) : (tick s).rem = s.rem := rfl
@[simp] theorem tick_usPre (s : State) : (tick s).usPre = if s.usPre = 1 then s.cfg.clkPerUs else s.usPre - 1 := rfl
@[simp] theorem tick_cyc (s : State) : (tick s).cyc = s.cyc + 1 := rfl
@[simp] theorem tick_out (s : State) : (tick s).out = s.out := rfl
@[simp] theorem tick_inputs (s : State) : (tick s).inputs = s.inputs := rfl

@[simp] theorem storeReg_cfg (r : Reg) (w : Word) (s : State) : (storeReg r w s).cfg = s.cfg := by cases r <;> rfl
@[simp] theorem storeReg_isOpen (r : Reg) (w : Word) (s : State) : (storeReg r w s).isOpen = s.isOpen := by cases r <;> rfl
@[simp] theorem storeReg_done (r : Reg) (w : Word) (s : State) : (storeReg r w s).done = s.done := by cases r <;> rfl
@[simp] theorem storeReg_rej (r : Reg) (w : Word) (s : State) : (storeReg r w s).rej = s.rej := by cases r <;> rfl
@[simp] theorem storeReg_err (r : Reg) (w : Word) (s : State) : (storeReg r w s).err = s.err := by cases r <;> rfl
@[simp] theorem storeReg_phase (r : Reg) (w : Word) (s : State) : (storeReg r w s).phase = s.phase := by cases r <;> rfl
@[simp] theorem storeReg_lineValid (r : Reg) (w : Word) (s : State) : (storeReg r w s).lineValid = s.lineValid := by cases r <;> rfl
@[simp] theorem storeReg_lineLevel (r : Reg) (w : Word) (s : State) : (storeReg r w s).lineLevel = s.lineLevel := by cases r <;> rfl
@[simp] theorem storeReg_symIdx (r : Reg) (w : Word) (s : State) : (storeReg r w s).symIdx = s.symIdx := by cases r <;> rfl
@[simp] theorem storeReg_rep (r : Reg) (w : Word) (s : State) : (storeReg r w s).rep = s.rep := by cases r <;> rfl
@[simp] theorem storeReg_activePl (r : Reg) (w : Word) (s : State) : (storeReg r w s).activePl = s.activePl := by cases r <;> rfl
@[simp] theorem storeReg_activeLine (r : Reg) (w : Word) (s : State) : (storeReg r w s).activeLine = s.activeLine := by cases r <;> rfl
@[simp] theorem storeReg_frame (r : Reg) (w : Word) (s : State) : (storeReg r w s).frame = s.frame := by cases r <;> rfl
@[simp] theorem storeReg_setcnt (r : Reg) (w : Word) (s : State) : (storeReg r w s).setcnt = s.setcnt := by cases r <;> rfl
@[simp] theorem storeReg_errInfo (r : Reg) (w : Word) (s : State) : (storeReg r w s).errInfo = s.errInfo := by cases r <;> rfl
@[simp] theorem storeReg_usCount (r : Reg) (w : Word) (s : State) : (storeReg r w s).usCount = s.usCount := by cases r <;> rfl
@[simp] theorem storeReg_fsm (r : Reg) (w : Word) (s : State) : (storeReg r w s).fsm = s.fsm := by cases r <;> rfl
@[simp] theorem storeReg_op (r : Reg) (w : Word) (s : State) : (storeReg r w s).op = s.op := by cases r <;> rfl
@[simp] theorem storeReg_v (r : Reg) (w : Word) (s : State) : (storeReg r w s).v = s.v := by cases r <;> rfl
@[simp] theorem storeReg_h (r : Reg) (w : Word) (s : State) : (storeReg r w s).h = s.h := by cases r <;> rfl
@[simp] theorem storeReg_l (r : Reg) (w : Word) (s : State) : (storeReg r w s).l = s.l := by cases r <;> rfl
@[simp] theorem storeReg_rem (r : Reg) (w : Word) (s : State) : (storeReg r w s).rem = s.rem := by cases r <;> rfl
@[simp] theorem storeReg_usPre (r : Reg) (w : Word) (s : State) : (storeReg r w s).usPre = s.usPre := by cases r <;> rfl
@[simp] theorem storeReg_cyc (r : Reg) (w : Word) (s : State) : (storeReg r w s).cyc = s.cyc := by cases r <;> rfl
@[simp] theorem storeReg_out (r : Reg) (w : Word) (s : State) : (storeReg r w s).out = s.out := by cases r <;> rfl
@[simp] theorem storeReg_inputs (r : Reg) (w : Word) (s : State) : (storeReg r w s).inputs = s.inputs := by cases r <;> rfl

@[simp] theorem resetWith_cfg (c : Config) (ins : List CycleInput) : (State.resetWith c ins).cfg = c := rfl
@[simp] theorem resetWith_ie (c : Config) (ins : List CycleInput) : (State.resetWith c ins).ie = false := rfl
@[simp] theorem resetWith_isOpen (c : Config) (ins : List CycleInput) : (State.resetWith c ins).isOpen = false := rfl
@[simp] theorem resetWith_done (c : Config) (ins : List CycleInput) : (State.resetWith c ins).done = false := rfl
@[simp] theorem resetWith_rej (c : Config) (ins : List CycleInput) : (State.resetWith c ins).rej = false := rfl
@[simp] theorem resetWith_err (c : Config) (ins : List CycleInput) : (State.resetWith c ins).err = .ok := rfl
@[simp] theorem resetWith_phase (c : Config) (ins : List CycleInput) : (State.resetWith c ins).phase = false := rfl
@[simp] theorem resetWith_lineValid (c : Config) (ins : List CycleInput) : (State.resetWith c ins).lineValid = false := rfl
@[simp] theorem resetWith_lineLevel (c : Config) (ins : List CycleInput) : (State.resetWith c ins).lineLevel = false := rfl
@[simp] theorem resetWith_symIdx (c : Config) (ins : List CycleInput) : (State.resetWith c ins).symIdx = 0#5 := rfl
@[simp] theorem resetWith_rep (c : Config) (ins : List CycleInput) : (State.resetWith c ins).rep = 0#4 := rfl
@[simp] theorem resetWith_code (c : Config) (ins : List CycleInput) : (State.resetWith c ins).code = 0#32 := rfl
@[simp] theorem resetWith_pulseLen (c : Config) (ins : List CycleInput) : (State.resetWith c ins).pulseLen = defaultPulseLen := rfl
@[simp] theorem resetWith_lineSel (c : Config) (ins : List CycleInput) : (State.resetWith c ins).lineSel = 0x00FFFF#24 := rfl
@[simp] theorem resetWith_activePl (c : Config) (ins : List CycleInput) : (State.resetWith c ins).activePl = 0#32 := rfl
@[simp] theorem resetWith_activeLine (c : Config) (ins : List CycleInput) : (State.resetWith c ins).activeLine = 0x00FFFF#24 := rfl
@[simp] theorem resetWith_frame (c : Config) (ins : List CycleInput) : (State.resetWith c ins).frame = 0#24 := rfl
@[simp] theorem resetWith_setcnt (c : Config) (ins : List CycleInput) : (State.resetWith c ins).setcnt = 0#32 := rfl
@[simp] theorem resetWith_errInfo (c : Config) (ins : List CycleInput) : (State.resetWith c ins).errInfo = 0#32 := rfl
@[simp] theorem resetWith_usCount (c : Config) (ins : List CycleInput) : (State.resetWith c ins).usCount = 0#32 := rfl
@[simp] theorem resetWith_fsm (c : Config) (ins : List CycleInput) : (State.resetWith c ins).fsm = .idle := rfl
@[simp] theorem resetWith_op (c : Config) (ins : List CycleInput) : (State.resetWith c ins).op = .none := rfl
@[simp] theorem resetWith_v (c : Config) (ins : List CycleInput) : (State.resetWith c ins).v = false := rfl
@[simp] theorem resetWith_h (c : Config) (ins : List CycleInput) : (State.resetWith c ins).h = 0#8 := rfl
@[simp] theorem resetWith_l (c : Config) (ins : List CycleInput) : (State.resetWith c ins).l = 0#8 := rfl
@[simp] theorem resetWith_rem (c : Config) (ins : List CycleInput) : (State.resetWith c ins).rem = 0 := rfl
@[simp] theorem resetWith_usPre (c : Config) (ins : List CycleInput) : (State.resetWith c ins).usPre = c.clkPerUs := rfl
@[simp] theorem resetWith_cyc (c : Config) (ins : List CycleInput) : (State.resetWith c ins).cyc = 0 := rfl
@[simp] theorem resetWith_out (c : Config) (ins : List CycleInput) : (State.resetWith c ins).out = .quiet := rfl
@[simp] theorem resetWith_inputs (c : Config) (ins : List CycleInput) : (State.resetWith c ins).inputs = ins := rfl

end Sys2Proof.Machine
end

