-- ==== Sys2Proof/Laws/Step.lean ====
section
/-! SUPPORT. Every command answers a next state, so every step does: the next states as total functions, and the shape of
a cycle. -/

namespace Sys2Proof.Machine

/-- What an accepted command does to the state (the state inside `exec i s`). -/
def acceptCommand (i : Instr) (s : State) : State :=
  match i with
  | .openCmd => openAccept (acceptClear s)
  | .closeCmd => closeAccept (acceptClear s)
  | .setLine v => setLineAccept v (acceptClear s)
  | .emitPulse h l => emitPulseAccept h l (acceptClear s)
  | .emitSymbol sym => emitSymbolAccept sym (acceptClear s)
  | .transmit => transmitAccept (acceptClear s)

theorem exec_eq_next (i : Instr) (s : State) : exec i s = .next (acceptCommand i s) := by
  cases i <;> rfl

/-- What an accepted word does to the state. -/
def acceptWord (w : Word) (s : State) : State :=
  match commandOf w with
  | none => complete .illegalOp (acceptClear s)
  | some i => acceptCommand i s

theorem accept_eq_next (w : Word) (s : State) : accept w s = .next (acceptWord w s) := by
  unfold accept acceptWord decode
  cases commandOf w with
  | none => rfl
  | some i => by_cases h : i.wf <;> simp [h, exec_eq_next]

/-- What a write to a register does to the state. -/
def writeState (r : Reg) (w : Word) (s : State) : State :=
  match r with
  | .cmd => if s.fsm = .idle then acceptWord w s else reject s
  | .status => writeStatus w s
  | r => storeReg r w s

theorem writeReg_eq_next (r : Reg) (w : Word) (s : State) : writeReg r w s = .next (writeState r w s) := by
  by_cases h : s.fsm = .idle <;> cases r <;> simp [writeReg, writeState, accept_eq_next, h]

/-- What the bus access of a cycle does to the state. -/
def busState (pre : State) (bus : Option Access) (s : State) : State :=
  match bus with
  | none => s
  | some (.read width addr) =>
    match target s.cfg width addr with
    | .outside => s
    | .bad => busError (.read width addr) s
    | .reg r => { s with out := { s.out with rdata := some (pre.readReg r) } }
  | some (.write width addr w) =>
    match target s.cfg width addr with
    | .outside => s
    | .bad => busError (.write width addr w) s
    | .reg r => writeState r w s

theorem busPart_eq_next (pre : State) (bus : Option Access) (s : State) :
    busPart pre bus s = .next (busState pre bus s) := by
  match bus with
  | none => rfl
  | some (.read width addr) => simp only [busPart, busState]; cases target s.cfg width addr <;> rfl
  | some (.write width addr w) =>
    simp only [busPart, busState]
    cases target s.cfg width addr <;> simp [writeReg_eq_next]

/-- The state after one cycle. -/
def State.after (s : State) : State :=
  if s.input.rst then resetCycle s.input.bus { s with inputs := s.inputs.tail }
  else busState { s with inputs := s.inputs.tail } s.input.bus
    (midCycle s.input.resp { s with inputs := s.inputs.tail })

theorem step_eq_next (s : State) : step s = .next s.after := by
  unfold step cycle State.after
  by_cases h : s.input.rst <;> simp [h, busPart_eq_next]

theorem step_next_iff {s t : State} : step s = .next t ↔ s.after = t := by
  simp [step_eq_next]

theorem after_of_reset {s : State} (h : s.input.rst = true) :
    s.after = resetCycle s.input.bus { s with inputs := s.inputs.tail } := by
  simp [State.after, h]

theorem after_of_running {s : State} (h : s.input.rst = false) :
    s.after = busState { s with inputs := s.inputs.tail } s.input.bus
      (midCycle s.input.resp { s with inputs := s.inputs.tail }) := by
  simp [State.after, h]

/-- The run from a state. -/
def runFrom (s : State) : Nat → State
  | 0 => s
  | k + 1 => (runFrom s k).after

theorem runFrom_trace (s : State) : Trace (runFrom s) := fun k => step_eq_next (runFrom s k)

theorem trace_succ {t : Nat → State} (ht : Trace t) (k : Nat) : t (k + 1) = (t k).after :=
  (step_next_iff.mp (ht k)).symm

@[simp] theorem withInput_input (inp : CycleInput) (s : State) : (s.withInput inp).input = inp := rfl

@[simp] theorem withInput_inputs_tail (inp : CycleInput) (s : State) :
    (s.withInput inp).inputs.tail = s.inputs.tail := rfl

/-- What one write does, case by case, to a state in which it finds the sequencer in `s.fsm`. -/
theorem writeState_cases (r : Reg) (w : Word) (s : State) :
    (r = .cmd ∧ s.fsm = .idle ∧ writeState r w s = acceptWord w s) ∨
    (r = .cmd ∧ s.fsm ≠ .idle ∧ writeState r w s = reject s) ∨
    (r = .status ∧ writeState r w s = writeStatus w s) ∨
    (r ≠ .cmd ∧ r ≠ .status ∧ writeState r w s = storeReg r w s) := by
  by_cases h : s.fsm = .idle <;> cases r <;> simp [writeState, h]

/-- What part 3 of a cycle does, case by case: nothing, outputs only, an accepted command, a rejected one, a W1C write, or
a store. -/
theorem busState_cases (pre : State) (bus : Option Access) (s : State) :
    (cmdWritten s.cfg bus = none ∧ ∃ d e, busState pre bus s = { s with out := { s.out with rdata := d, busErr := e } }) ∨
    (∃ w, cmdWritten s.cfg bus = some w ∧ s.fsm = .idle ∧ busState pre bus s = acceptWord w s) ∨
    (∃ w, cmdWritten s.cfg bus = some w ∧ s.fsm ≠ .idle ∧ busState pre bus s = reject s) ∨
    (cmdWritten s.cfg bus = none ∧ ∃ w width addr, bus = some (.write width addr w) ∧
      target s.cfg width addr = .reg .status ∧ busState pre bus s = writeStatus w s) ∨
    (cmdWritten s.cfg bus = none ∧ ∃ r w width addr, bus = some (.write width addr w) ∧
      target s.cfg width addr = .reg r ∧ busState pre bus s = storeReg r w s) := by
  have same : s = { s with out := { s.out with rdata := s.out.rdata, busErr := s.out.busErr } } := rfl
  match bus with
  | none => exact .inl ⟨rfl, _, _, same⟩
  | some (.read width addr) =>
    refine .inl ⟨rfl, ?_⟩
    simp only [busState]
    cases target s.cfg width addr with
    | outside => exact ⟨_, _, same⟩
    | bad => exact ⟨_, _, rfl⟩
    | reg r => exact ⟨_, s.out.busErr, rfl⟩
  | some (.write width addr w) =>
    simp only [busState, cmdWritten]
    cases hT : target s.cfg width addr with
    | outside => exact .inl ⟨by simp, _, _, same⟩
    | bad => exact .inl ⟨by simp, s.out.rdata, true, rfl⟩
    | reg r =>
      rcases writeState_cases r w s with ⟨rfl, hf, he⟩ | ⟨rfl, hf, he⟩ | ⟨rfl, he⟩ | ⟨hr, -, he⟩
      · exact .inr (.inl ⟨w, by simp, hf, he⟩)
      · exact .inr (.inr (.inl ⟨w, by simp, hf, he⟩))
      · exact .inr (.inr (.inr (.inl ⟨by simp, w, width, addr, rfl, hT, he⟩)))
      · exact .inr (.inr (.inr (.inr ⟨by simp [hr], r, w, width, addr, rfl, hT, he⟩)))

end Sys2Proof.Machine
end

