-- ==== Sys2Proof/Laws/Cases.lean ====
section
/-! SUPPORT. What each part of a cycle can do, case by case, said once: the sequencer (part 2), the accept of a word (part
3), and a whole cycle. -/

namespace Sys2Proof.Machine

/-- What part 2 of a cycle can do (20_memory.md R68), case by case. -/
theorem sequencer_cases (resp : Resp) (s : State) :
    (s.fsm = .idle ∧ sequencer resp s = s) ∨
    (s.fsm.waiting = true ∧ resp = .none ∧ sequencer resp s = s) ∨
    (s.fsm.timing = true ∧ s.rem - 1 ≠ 0 ∧ sequencer resp s = { s with rem := s.rem - 1 }) ∨
    (s.fsm = .wOpen ∧ resp = .ok ∧ sequencer resp s = complete .ok { s with isOpen := true }) ∨
    (s.fsm = .wRelease ∧ resp = .ok ∧ sequencer resp s = complete .ok (closeBlock s)) ∨
    (s.fsm = .wRelease ∧ resp = .err ∧ sequencer resp s = lineFail .releaseLine false (closeBlock s)) ∨
    (s.fsm = .wLookup ∧ resp = .ok ∧ s.op = .setLine ∧ sequencer resp s = issueSet s.v { s with fsm := .wSetV }) ∨
    (s.fsm = .wLookup ∧ resp = .ok ∧ s.op ≠ .setLine ∧ sequencer resp s = startPulse s.h s.l s) ∨
    (s.fsm = .wSetV ∧ resp = .ok ∧ sequencer resp s = complete .ok (recordLevel s.v s)) ∨
    (s.fsm = .wSetH ∧ resp = .ok ∧ sequencer resp s = startPhase s.h { recordLevel true s with fsm := .tHigh }) ∨
    (s.fsm = .wSetL ∧ resp = .ok ∧ sequencer resp s = startPhase s.l { recordLevel false s with fsm := .tLow }) ∨
    (resp = .err ∧ ∃ kind level, kind ≠ .releaseLine ∧ (kind ≠ .setLine → level = false) ∧
      ((s.fsm = .wOpen ∧ kind = .openLine) ∨ (s.fsm = .wLookup ∧ kind = .lookupLine) ∨
       (s.fsm = .wSetV ∧ kind = .setLine ∧ level = s.v) ∨ (s.fsm = .wSetH ∧ kind = .setLine ∧ level = true) ∨
       (s.fsm = .wSetL ∧ kind = .setLine ∧ level = false)) ∧
      sequencer resp s = lineFail kind level s) ∨
    (s.fsm = .tHigh ∧ s.rem - 1 = 0 ∧
      sequencer resp s = issueSet false { s with rem := 0, phase := true, fsm := .wSetL }) ∨
    (s.fsm = .tLow ∧ s.rem - 1 = 0 ∧
      (s.op = .emitPulse ∨ s.op = .emitSymbol ∨ (s.op = .transmit ∧ s.symIdx = 24#5 ∧ s.rep = 9#4)) ∧
      sequencer resp s = complete .ok { s with rem := 0 }) ∨
    (s.fsm = .tLow ∧ s.rem - 1 = 0 ∧ s.op = .transmit ∧ ¬ (s.symIdx = 24#5 ∧ s.rep = 9#4) ∧
      sequencer resp s = startSymbol (nextSymbol { s with rem := 0 })) ∨
    (s.fsm = .tLow ∧ s.rem - 1 = 0 ∧ s.op.pulses = false ∧ sequencer resp s = { s with rem := 0 }) := by
  unfold sequencer
  cases hf : s.fsm
  case idle => simp [Fsm.waiting, Fsm.timing]
  case tHigh =>
    by_cases hr : s.rem - 1 = 0 <;> simp [Fsm.waiting, Fsm.timing, countDown, onExpire, highExpired, hf, hr]
  case tLow =>
    by_cases hr : s.rem - 1 = 0
    · by_cases h1 : s.symIdx = 24#5 <;> by_cases h2 : s.rep = 9#4 <;> cases ho : s.op <;>
        simp [Fsm.waiting, Fsm.timing, countDown, onExpire, pulseDone, OpKind.pulses, advance, hf, hr, ho, h1, h2]
    · simp [Fsm.waiting, Fsm.timing, countDown, hf, hr]
  case wLookup =>
    cases resp
    · simp [Fsm.waiting, onResponse]
    · by_cases ho : s.op = .setLine <;> simp [Fsm.waiting, onResponse, onOk, firstAction, hf, ho]
    · simp [Fsm.waiting, Fsm.timing, onResponse, onErr, hf]
      exact ⟨_, by decide, .inl ⟨rfl, rfl⟩⟩
  case wOpen =>
    cases resp
    · simp [Fsm.waiting, onResponse]
    · simp [Fsm.waiting, Fsm.timing, onResponse, onOk, openAnswered, hf]
    · simp [Fsm.waiting, Fsm.timing, onResponse, onErr, hf]
      exact ⟨_, by decide, .inl ⟨rfl, rfl⟩⟩
  all_goals
    cases resp <;>
      simp [Fsm.waiting, Fsm.timing, onResponse, onOk, onErr, releaseAnswered, releaseFailed, setLineAnswered,
        highAnswered, lowAnswered, hf]

/-- What the accept of a command that drives the line does, once its checks have passed (40_line.md R106). -/
theorem beginCommand_cases (op : OpKind) (s : State) :
    (s.cfg.backend = .board ∧ beginCommand op s =
      lineReq (.lookupLine (lineDev s.activeLine) (lineOffset s.activeLine)) { s with op := op, fsm := .wLookup }) ∨
    (s.cfg.backend = .direct ∧ op = .setLine ∧
      beginCommand op s = issueSet s.v { s with op := op, fsm := .wSetV }) ∨
    (s.cfg.backend = .direct ∧ op ≠ .setLine ∧ beginCommand op s = startPulse s.h s.l { s with op := op }) := by
  unfold beginCommand firstAction
  cases s.cfg.backend <;> by_cases h : op = .setLine <;> simp [h]

/-- A command that drives the line passes its checks in `s`: the command `op` starts, with st.v, st.h, st.l and FRAME as
given (40_line.md R109, 41_pulse.md R125, 42_symbol.md R142, 43_frame.md R153). -/
def Starts (i : Instr) (s : State) (op : OpKind) (v : Level) (h l : BitVec 8) (frame : BitVec 24) : Prop :=
  match i with
  | .openCmd => False
  | .closeCmd => False
  | .setLine u => op = .setLine ∧ v = u ∧ h = s.h ∧ l = s.l ∧ frame = s.frame
  | .emitPulse x y => op = .emitPulse ∧ v = s.v ∧ h = x ∧ l = y ∧ frame = s.frame ∧ x ≠ 0#8 ∧ y ≠ 0#8
  | .emitSymbol sym =>
    op = .emitSymbol ∧ v = s.v ∧ frame = s.frame ∧ ∃ y, symbolOf sym = some y ∧ h = (ratio y).1 ∧ l = (ratio y).2
  | .transmit =>
    op = .transmit ∧ v = s.v ∧ frame = s.code.extractLsb' 0 24 ∧ codeInRange s.code = true ∧
    h = (ratio (symAt frame 0)).1 ∧ l = (ratio (symAt frame 0)).2

/-- The results a command can complete with in its accept cycle when a check fails (60_exceptions.md R172), and OK for
CLOSE while closed. -/
def endsAtOnce (i : Instr) (s : State) (r : Result) : Prop :=
  match i with
  | .openCmd =>
    (r = .alreadyOpen ∧ s.isOpen = true) ∨
    (r = .cfgPin ∧ s.isOpen = false ∧ lineOffset s.lineSel = noPin) ∨
    (r = .cfgPulse ∧ s.isOpen = false ∧ lineOffset s.lineSel ≠ noPin ∧ pulseLenLegal s.pulseLen = false)
  | .closeCmd => r = .ok ∧ s.isOpen = false
  | .setLine _ => r = .notOpen ∧ s.isOpen = false
  | .emitPulse h l =>
    (r = .illegalOperand ∧ (h = 0#8 ∨ l = 0#8)) ∨ (r = .notOpen ∧ h ≠ 0#8 ∧ l ≠ 0#8 ∧ s.isOpen = false)
  | .emitSymbol sym =>
    (r = .illegalOperand ∧ symbolOf sym = none) ∨ (r = .notOpen ∧ symbolOf sym ≠ none ∧ s.isOpen = false)
  | .transmit =>
    (r = .range ∧ codeInRange s.code = false) ∨ (r = .notOpen ∧ codeInRange s.code = true ∧ s.isOpen = false)

/-- What an accepted command does, case by case: it ends at once; OPEN goes to the line or opens; CLOSE goes to the line or
closes; or a line-driving command starts, with a LOOKUP, a SET of SET_LINE, or a pulse. -/
theorem acceptCommand_cases (i : Instr) (s : State) :
    (∃ r, endsAtOnce i s r ∧ acceptCommand i s = complete r (acceptClear s)) ∨
    (i = .openCmd ∧ s.isOpen = false ∧ lineOffset s.lineSel ≠ noPin ∧ pulseLenLegal s.pulseLen = true ∧
      ((s.cfg.backend = .direct ∧ acceptCommand i s =
          lineReq (.openLine (lineDev s.lineSel) (lineOffset s.lineSel))
            { acceptClear s with activePl := s.pulseLen, activeLine := s.lineSel, op := .openCmd, fsm := .wOpen }) ∨
       (s.cfg.backend = .board ∧ acceptCommand i s =
          complete .ok
            { acceptClear s with activePl := s.pulseLen, activeLine := s.lineSel, op := .openCmd, isOpen := true }))) ∨
    (i = .closeCmd ∧ s.isOpen = true ∧
      ((s.cfg.backend = .direct ∧ acceptCommand i s =
          lineReq (.releaseLine (lineDev s.activeLine) (lineOffset s.activeLine))
            { acceptClear s with op := .closeCmd, fsm := .wRelease }) ∨
       (s.cfg.backend = .board ∧ acceptCommand i s =
          complete .ok (closeBlock { acceptClear s with op := .closeCmd })))) ∨
    (s.isOpen = true ∧ ∃ op v h l frame, Starts i s op v h l frame ∧
      ((s.cfg.backend = .board ∧ acceptCommand i s =
          lineReq (.lookupLine (lineDev s.activeLine) (lineOffset s.activeLine))
            { acceptClear s with v := v, h := h, l := l, frame := frame, op := op, fsm := .wLookup }) ∨
       (s.cfg.backend = .direct ∧ op = .setLine ∧ acceptCommand i s =
          issueSet v { acceptClear s with v := v, h := h, l := l, frame := frame, op := op, fsm := .wSetV }) ∨
       (s.cfg.backend = .direct ∧ op ≠ .setLine ∧ acceptCommand i s =
          startPulse h l { acceptClear s with v := v, frame := frame, op := op }))) := by
  cases i with
  | openCmd =>
    by_cases ho : s.isOpen = true
    · exact .inl ⟨.alreadyOpen, .inl ⟨rfl, ho⟩, by simp [acceptCommand, openAccept, ho]⟩
    by_cases hp : lineOffset s.lineSel = noPin
    · exact .inl ⟨.cfgPin, .inr (.inl ⟨rfl, by simpa using ho, hp⟩), by simp [acceptCommand, openAccept, ho, hp]⟩
    by_cases hl : pulseLenLegal s.pulseLen = true
    · refine .inr (.inl ⟨rfl, by simpa using ho, hp, hl, ?_⟩)
      cases hb : s.cfg.backend <;> simp [acceptCommand, openAccept, ho, hp, hl, hb]
    · exact .inl ⟨.cfgPulse, .inr (.inr ⟨rfl, by simpa using ho, hp, by simpa using hl⟩),
        by simp [acceptCommand, openAccept, ho, hp, hl]⟩
  | closeCmd =>
    by_cases ho : s.isOpen = true
    · refine .inr (.inr (.inl ⟨rfl, ho, ?_⟩))
      cases hb : s.cfg.backend <;> simp [acceptCommand, closeAccept, ho, hb]
    · exact .inl ⟨.ok, ⟨rfl, by simpa using ho⟩, by simp [acceptCommand, closeAccept, ho]⟩
  | setLine u =>
    by_cases ho : s.isOpen = true
    · refine .inr (.inr (.inr ⟨ho, .setLine, u, s.h, s.l, s.frame, ⟨rfl, rfl, rfl, rfl, rfl⟩, ?_⟩))
      have e : acceptCommand (.setLine u) s = beginCommand .setLine { acceptClear s with v := u } := by
        simp [acceptCommand, setLineAccept, ho]
      rw [e]
      exact beginCommand_cases .setLine { acceptClear s with v := u }
    · exact .inl ⟨.notOpen, ⟨rfl, by simpa using ho⟩, by simp [acceptCommand, setLineAccept, ho]⟩
  | emitPulse x y =>
    by_cases hd : x = 0#8 ∨ y = 0#8
    · exact .inl ⟨.illegalOperand, .inl ⟨rfl, hd⟩, by simp [acceptCommand, emitPulseAccept, hd]⟩
    have hd' := not_or.mp hd
    by_cases ho : s.isOpen = true
    · refine .inr (.inr (.inr ⟨ho, .emitPulse, s.v, x, y, s.frame, ⟨rfl, rfl, rfl, rfl, rfl, hd'⟩, ?_⟩))
      have e : acceptCommand (.emitPulse x y) s = beginCommand .emitPulse { acceptClear s with h := x, l := y } := by
        simp [acceptCommand, emitPulseAccept, ho, hd']
      rw [e]
      exact beginCommand_cases .emitPulse { acceptClear s with h := x, l := y }
    · exact .inl ⟨.notOpen, .inr ⟨rfl, hd'.1, hd'.2, by simpa using ho⟩, by simp [acceptCommand, emitPulseAccept, hd', ho]⟩
  | emitSymbol sym =>
    cases hy : symbolOf sym with
    | none => exact .inl ⟨.illegalOperand, .inl ⟨rfl, hy⟩, by simp [acceptCommand, emitSymbolAccept, hy]⟩
    | some y =>
      by_cases ho : s.isOpen = true
      · refine .inr (.inr (.inr ⟨ho, .emitSymbol, s.v, _, _, s.frame, ⟨rfl, rfl, rfl, y, hy, rfl, rfl⟩, ?_⟩))
        have e : acceptCommand (.emitSymbol sym) s =
            beginCommand .emitSymbol { acceptClear s with h := (ratio y).1, l := (ratio y).2 } := by
          simp [acceptCommand, emitSymbolAccept, ho, hy]
        rw [e]
        exact beginCommand_cases .emitSymbol { acceptClear s with h := (ratio y).1, l := (ratio y).2 }
      · exact .inl ⟨.notOpen, .inr ⟨rfl, by simp [hy], by simpa using ho⟩, by simp [acceptCommand, emitSymbolAccept, hy, ho]⟩
  | transmit =>
    by_cases hc : codeInRange s.code = true
    · by_cases ho : s.isOpen = true
      · refine .inr (.inr (.inr ⟨ho, .transmit, s.v, _, _, _, ⟨rfl, rfl, rfl, hc, rfl, rfl⟩, ?_⟩))
        have e : acceptCommand .transmit s = beginCommand .transmit
            { acceptClear s with
              frame := s.code.extractLsb' 0 24
              h := (ratio (symAt (s.code.extractLsb' 0 24) 0)).1
              l := (ratio (symAt (s.code.extractLsb' 0 24) 0)).2 } := by
          simp [acceptCommand, transmitAccept, ho, hc]
        rw [e]
        exact beginCommand_cases .transmit
          { acceptClear s with
            frame := s.code.extractLsb' 0 24
            h := (ratio (symAt (s.code.extractLsb' 0 24) 0)).1
            l := (ratio (symAt (s.code.extractLsb' 0 24) 0)).2 }
      · exact .inl ⟨.notOpen, .inr ⟨rfl, hc, by simpa using ho⟩, by simp [acceptCommand, transmitAccept, hc, ho]⟩
    · exact .inl ⟨.range, .inl ⟨rfl, by simpa using hc⟩, by simp [acceptCommand, transmitAccept, hc]⟩

/-- Fields no accepted command changes (10_state.md R24, R29, R32, R34 to R36, R42). -/
theorem acceptCommand_keeps (i : Instr) (s : State) : let s' := acceptCommand i s
    s'.cfg = s.cfg ∧ s'.ie = s.ie ∧ s'.rej = s.rej ∧ s'.lineLevel = s.lineLevel ∧ s'.code = s.code ∧
    s'.pulseLen = s.pulseLen ∧ s'.lineSel = s.lineSel ∧ s'.usCount = s.usCount ∧ s'.rem = s.rem ∧ s'.usPre = s.usPre ∧
    s'.cyc = s.cyc ∧ s'.inputs = s.inputs := by
  rcases acceptCommand_cases i s with ⟨_, _, h⟩ | ⟨_, _, _, _, ⟨_, h⟩ | ⟨_, h⟩⟩ | ⟨_, _, ⟨_, h⟩ | ⟨_, h⟩⟩ |
    ⟨_, _, _, _, _, _, _, ⟨_, h⟩ | ⟨_, _, h⟩ | ⟨_, _, h⟩⟩ <;> rw [h] <;> simp

end Sys2Proof.Machine
end

