-- ==== Sys2Proof/Laws/Cycle.lean ====
section
/-! SUPPORT. One cycle with given inputs, and what the sequencer never touches. -/

namespace Sys2Proof.Machine

/-- The sequencer leaves these fields alone: the parameters, the host's registers, the active copies, FRAME, the
microsecond counter and the inputs (10_state.md R34 to R39, R42). -/
theorem sequencer_keeps (resp : Resp) (s : State) : let s' := sequencer resp s
    s'.cfg = s.cfg ∧ s'.ie = s.ie ∧ s'.rej = s.rej ∧ s'.code = s.code ∧ s'.pulseLen = s.pulseLen ∧
    s'.lineSel = s.lineSel ∧ s'.activePl = s.activePl ∧ s'.activeLine = s.activeLine ∧ s'.frame = s.frame ∧
    s'.usCount = s.usCount ∧ s'.usPre = s.usPre ∧ s'.cyc = s.cyc ∧ s'.inputs = s.inputs ∧ s'.v = s.v ∧ s'.op = s.op ∧
    s'.out.rdata = s.out.rdata ∧ s'.out.busErr = s.out.busErr := by
  rcases sequencer_cases resp s with ⟨_, h⟩ | ⟨_, _, h⟩ | ⟨_, _, h⟩ | ⟨_, _, h⟩ | ⟨_, _, h⟩ | ⟨_, _, h⟩ | ⟨_, _, _, h⟩ |
    ⟨_, _, _, h⟩ | ⟨_, _, h⟩ | ⟨_, _, h⟩ | ⟨_, _, h⟩ | ⟨_, _, _, _, _, _, h⟩ | ⟨_, _, h⟩ | ⟨_, _, _, h⟩ | ⟨_, _, _, _, h⟩ |
    ⟨_, _, _, h⟩
  all_goals (rw [h]; simp)

@[simp] theorem sequencer_cfg (resp : Resp) (s : State) : (sequencer resp s).cfg = s.cfg :=
  (sequencer_keeps resp s).1

@[simp] theorem sequencer_ie (resp : Resp) (s : State) : (sequencer resp s).ie = s.ie :=
  (sequencer_keeps resp s).2.1

@[simp] theorem sequencer_rej (resp : Resp) (s : State) : (sequencer resp s).rej = s.rej :=
  (sequencer_keeps resp s).2.2.1

@[simp] theorem sequencer_code (resp : Resp) (s : State) : (sequencer resp s).code = s.code :=
  (sequencer_keeps resp s).2.2.2.1

@[simp] theorem sequencer_pulseLen (resp : Resp) (s : State) : (sequencer resp s).pulseLen = s.pulseLen :=
  (sequencer_keeps resp s).2.2.2.2.1

@[simp] theorem sequencer_lineSel (resp : Resp) (s : State) : (sequencer resp s).lineSel = s.lineSel :=
  (sequencer_keeps resp s).2.2.2.2.2.1

@[simp] theorem sequencer_activePl (resp : Resp) (s : State) : (sequencer resp s).activePl = s.activePl :=
  (sequencer_keeps resp s).2.2.2.2.2.2.1

@[simp] theorem sequencer_activeLine (resp : Resp) (s : State) : (sequencer resp s).activeLine = s.activeLine :=
  (sequencer_keeps resp s).2.2.2.2.2.2.2.1

@[simp] theorem sequencer_frame (resp : Resp) (s : State) : (sequencer resp s).frame = s.frame :=
  (sequencer_keeps resp s).2.2.2.2.2.2.2.2.1

@[simp] theorem sequencer_usCount (resp : Resp) (s : State) : (sequencer resp s).usCount = s.usCount :=
  (sequencer_keeps resp s).2.2.2.2.2.2.2.2.2.1

@[simp] theorem sequencer_usPre (resp : Resp) (s : State) : (sequencer resp s).usPre = s.usPre :=
  (sequencer_keeps resp s).2.2.2.2.2.2.2.2.2.2.1

@[simp] theorem sequencer_cyc (resp : Resp) (s : State) : (sequencer resp s).cyc = s.cyc :=
  (sequencer_keeps resp s).2.2.2.2.2.2.2.2.2.2.2.1

@[simp] theorem sequencer_inputs (resp : Resp) (s : State) : (sequencer resp s).inputs = s.inputs :=
  (sequencer_keeps resp s).2.2.2.2.2.2.2.2.2.2.2.2.1

@[simp] theorem sequencer_v (resp : Resp) (s : State) : (sequencer resp s).v = s.v :=
  (sequencer_keeps resp s).2.2.2.2.2.2.2.2.2.2.2.2.2.1

@[simp] theorem sequencer_op (resp : Resp) (s : State) : (sequencer resp s).op = s.op :=
  (sequencer_keeps resp s).2.2.2.2.2.2.2.2.2.2.2.2.2.2.1

@[simp] theorem beforeBus_cfg (resp : Resp) (s : State) : (s.beforeBus resp).cfg = s.cfg := by
  simp [State.beforeBus, midCycle]

@[simp] theorem beforeBus_code (resp : Resp) (s : State) : (s.beforeBus resp).code = s.code := by
  simp [State.beforeBus, midCycle]

@[simp] theorem beforeBus_pulseLen (resp : Resp) (s : State) : (s.beforeBus resp).pulseLen = s.pulseLen := by
  simp [State.beforeBus, midCycle]

@[simp] theorem beforeBus_lineSel (resp : Resp) (s : State) : (s.beforeBus resp).lineSel = s.lineSel := by
  simp [State.beforeBus, midCycle]

@[simp] theorem beforeBus_activePl (resp : Resp) (s : State) : (s.beforeBus resp).activePl = s.activePl := by
  simp [State.beforeBus, midCycle]

@[simp] theorem beforeBus_activeLine (resp : Resp) (s : State) : (s.beforeBus resp).activeLine = s.activeLine := by
  simp [State.beforeBus, midCycle]

@[simp] theorem beforeBus_frame (resp : Resp) (s : State) : (s.beforeBus resp).frame = s.frame := by
  simp [State.beforeBus, midCycle]

@[simp] theorem beforeBus_ie (resp : Resp) (s : State) : (s.beforeBus resp).ie = s.ie := by
  simp [State.beforeBus, midCycle]

@[simp] theorem beforeBus_rej (resp : Resp) (s : State) : (s.beforeBus resp).rej = s.rej := by
  simp [State.beforeBus, midCycle]

@[simp] theorem beforeBus_inputs (resp : Resp) (s : State) : (s.beforeBus resp).inputs = s.inputs.tail := by
  simp [State.beforeBus, midCycle]

@[simp] theorem beforeBus_withInput (resp : Resp) (inp : CycleInput) (s : State) :
    (s.withInput inp).beforeBus resp = s.beforeBus resp := rfl

/-- Part 2 works on `s.ticked`. -/
theorem beforeBus_eq (resp : Resp) (s : State) : s.beforeBus resp = sequencer resp s.ticked := rfl

@[simp] theorem ticked_withInput (inp : CycleInput) (s : State) : (s.withInput inp).ticked = s.ticked := rfl

/-- The address of a register's word goes to that register. -/
@[simp] theorem target_of_reg (c : Config) (r : Reg) : target c .w32 (c.base + r.offset) = .reg r := by
  have h : ¬ c.base + r.offset < c.base := by omega
  have e : c.base + r.offset - c.base = r.offset := by omega
  simp only [target, h, if_false, e]
  cases r <;> rfl

/-- An aligned 32-bit read of a register reads that register. -/
@[simp] theorem regRead_readOf (c : Config) (r : Reg) : regRead c (some (readOf c r)) = some r := by
  simp [regRead, readOf]

/-- A write reads nothing. -/
@[simp] theorem regRead_writeOf (c : Config) (r : Reg) (w : Word) : regRead c (some (writeOf c r w)) = none := rfl

/-- A read of a register only gives its value at the start of the cycle (20_memory.md R66, R69). -/
theorem busState_of_regRead {bus : Option Access} {s : State} {r : Reg} (pre : State) (h : regRead s.cfg bus = some r) :
    busState pre bus s = { s with out := { s.out with rdata := some (pre.readReg r) } } := by
  match bus with
  | none => cases h
  | some (.write _ _ _) => cases h
  | some (.read width addr) =>
    simp only [regRead] at h
    cases hT : target s.cfg width addr with
    | outside => simp [hT] at h
    | bad => simp [hT] at h
    | reg r' => simp only [hT, Option.some.injEq] at h; subst h; simp only [busState, hT]

/-- An access that reads no register does not look at the start of the cycle. -/
theorem busState_of_no_regRead {bus : Option Access} {s : State} (pre pre' : State) (h : regRead s.cfg bus = none) :
    busState pre bus s = busState pre' bus s := by
  match bus with
  | none => rfl
  | some (.write _ _ _) => rfl
  | some (.read width addr) =>
    simp only [regRead] at h
    cases hT : target s.cfg width addr with
    | outside => simp only [busState, hT]
    | bad => simp only [busState, hT]
    | reg r' => simp [hT] at h

/-- A cycle with no reset: part 3 on the state after parts 1 and 2. -/
theorem step_of_input {s : State} (h : s.input.rst = false) :
    step s = .next (busState { s with inputs := s.inputs.tail } s.input.bus (s.beforeBus s.input.resp)) := by
  rw [step_eq_next, after_of_running h]; rfl

theorem step_withInput (s : State) (resp : Resp) (bus : Option Access) :
    step (s.withInput (.of resp bus)) =
      .next (busState { s with inputs := s.inputs.tail } bus (s.beforeBus resp)) :=
  step_of_input rfl

/-- A cycle with no reset in which the host writes register `r`. -/
theorem step_write (s : State) (resp : Resp) (r : Reg) (w : Word) :
    step (s.withInput (.of resp (some (writeOf s.cfg r w)))) = .next (writeState r w (s.beforeBus resp)) := by
  rw [step_withInput]
  simp only [busState, writeOf, beforeBus_cfg, target_of_reg]

/-- A cycle with no reset in which the host reads register `r`. -/
theorem step_read (s : State) (resp : Resp) (r : Reg) :
    step (s.withInput (.of resp (some (readOf s.cfg r)))) =
      .next { s.beforeBus resp with out := { (s.beforeBus resp).out with rdata := some (s.readReg r) } } := by
  rw [step_withInput]
  simp only [busState, readOf, beforeBus_cfg, target_of_reg]
  cases r <;> rfl

/-- A CMD write that finds the sequencer IDLE after part 2 is accepted (60_exceptions.md R170). -/
theorem step_accepts {s : State} {resp : Resp} (w : Word) (h : (s.beforeBus resp).fsm = .idle) :
    step (s.withInput (.of resp (some (writeOf s.cfg .cmd w)))) = .next (acceptWord w (s.beforeBus resp)) := by
  rw [step_write]; simp [writeState, h]

/-- A CMD write that finds the sequencer busy after part 2 is rejected (60_exceptions.md R177). -/
theorem step_rejects {s : State} {resp : Resp} (w : Word) (h : (s.beforeBus resp).fsm ≠ .idle) :
    step (s.withInput (.of resp (some (writeOf s.cfg .cmd w)))) = .next (reject (s.beforeBus resp)) := by
  rw [step_write]; simp [writeState, h]

/-- A cycle with no reset, case by case, from `s` to `t`: the bus access changes outputs only, accepts, is rejected, clears
status bits, or stores. -/
theorem step_cases {s t m : State} (h : step s = .next t) (hr : s.input.rst = false)
    (hm : m = s.beforeBus s.input.resp) :
    (cmdWritten s.cfg s.input.bus = none ∧ ∃ d e, t = { m with out := { m.out with rdata := d, busErr := e } }) ∨
    (∃ w, cmdWritten s.cfg s.input.bus = some w ∧ m.fsm = .idle ∧ t = acceptWord w m) ∨
    (∃ w, cmdWritten s.cfg s.input.bus = some w ∧ m.fsm ≠ .idle ∧ t = reject m) ∨
    (cmdWritten s.cfg s.input.bus = none ∧ ∃ w width addr, s.input.bus = some (.write width addr w) ∧
      target s.cfg width addr = .reg .status ∧ t = writeStatus w m) ∨
    (cmdWritten s.cfg s.input.bus = none ∧ ∃ r w width addr, s.input.bus = some (.write width addr w) ∧
      target s.cfg width addr = .reg r ∧ t = storeReg r w m) := by
  rw [step_of_input hr, ← hm] at h
  injection h with h
  have := busState_cases { s with inputs := s.inputs.tail } s.input.bus m
  rw [h] at this
  simpa [hm] using this

/-- No accepted word changes the parameters or the inputs to come. -/
theorem acceptWord_keeps (w : Word) (s : State) :
    (acceptWord w s).cfg = s.cfg ∧ (acceptWord w s).inputs = s.inputs := by
  unfold acceptWord
  split
  · exact ⟨rfl, rfl⟩
  · rename_i i _
    have h := acceptCommand_keeps i s
    exact ⟨h.1, h.2.2.2.2.2.2.2.2.2.2.2⟩

/-- Every cycle uses up its input and keeps the parameters (00_scope.md R7). -/
theorem after_keeps (s : State) : s.after.cfg = s.cfg ∧ s.after.inputs = s.inputs.tail := by
  by_cases hr : s.input.rst = true
  · rw [after_of_reset hr]; exact ⟨rfl, rfl⟩
  have hr : s.input.rst = false := by simpa using hr
  have hc : (s.beforeBus s.input.resp).cfg = s.cfg ∧ (s.beforeBus s.input.resp).inputs = s.inputs.tail := by simp
  rw [← hc.1, ← hc.2]
  rcases step_cases (step_eq_next s) hr rfl with ⟨-, d, e, h⟩ | ⟨w, -, -, h⟩ | ⟨w, -, -, h⟩ | ⟨-, w, _, _, _, _, h⟩ |
    ⟨-, r, w, _, _, _, _, h⟩ <;> rw [h]
  · exact ⟨rfl, rfl⟩
  · exact acceptWord_keeps w _
  · exact ⟨rfl, rfl⟩
  · exact ⟨rfl, rfl⟩
  · exact ⟨storeReg_cfg r w _, storeReg_inputs r w _⟩

/-- The inputs of a run are those of its first state, one by one. -/
theorem trace_inputs {t : Nat → State} (ht : Trace t) (k : Nat) : (t k).inputs = (t 0).inputs.drop k := by
  induction k with
  | zero => rfl
  | succ k ih => rw [trace_succ ht, (after_keeps _).2, ih, List.tail_drop]

/-- The parameters of a run are those of its first state. -/
theorem trace_cfg {t : Nat → State} (ht : Trace t) (k : Nat) : (t k).cfg = (t 0).cfg := by
  induction k with
  | zero => rfl
  | succ k ih => rw [trace_succ ht, (after_keeps _).1, ih]

/-- A reset cycle. -/
theorem step_of_reset {s : State} (h : s.input.rst = true) :
    step s = .next (resetCycle s.input.bus { s with inputs := s.inputs.tail }) := by
  rw [step_eq_next, after_of_reset h]

end Sys2Proof.Machine
end

