-- ==== Sys2Proof/Laws/Encoding.lean ====
section
/-! SUPPORT. Words and their fields: an appended word as a number, and the words that have a command's pattern. -/

namespace Sys2Proof

/-- An appended bit vector as a number. -/
theorem toNat_append_eq {n m : Nat} (x : BitVec n) (y : BitVec m) :
    (x ++ y).toNat = x.toNat * 2 ^ m + y.toNat := by
  rw [BitVec.toNat_append, ← Nat.shiftLeft_add_eq_or_of_lt y.isLt, Nat.shiftLeft_eq]

/-- A field of a word as a number. -/
theorem toNat_field {n : Nat} (lo len : Nat) (w : BitVec n) :
    (w.extractLsb' lo len).toNat = w.toNat / 2 ^ lo % 2 ^ len := by
  simp [Nat.shiftRight_eq_div_pow]

theorem toNat_opField (w : Word) : (opField w).toNat = w.toNat / 2 ^ 28 % 2 ^ 4 := toNat_field 28 4 w

/-- Bit 0 of a word as a number. -/
theorem toNat_bit0 (w : Word) : (BitVec.ofBool (w.getLsbD 0)).toNat = w.toNat % 2 := by
  rw [BitVec.toNat_ofBool, BitVec.getLsbD, Nat.testBit_zero]
  rcases Nat.mod_two_eq_zero_or_one w.toNat with h | h <;> simp [h]

/-- A field equal to a constant, as an equation of numbers. -/
theorem field_eq_iff {n : Nat} (lo len : Nat) (w : BitVec n) (c : BitVec len) :
    w.extractLsb' lo len = c ↔ w.toNat / 2 ^ lo % 2 ^ len = c.toNat := by
  rw [← toNat_field, BitVec.toNat_inj]

/-- The words of OPEN, CLOSE and TRANSMIT by their numbers: the OP nibble and an operand area of 0. -/
theorem word_eq_of_fields {w c : Word} (hop : opField w = opField c) (hlo : w.extractLsb' 0 28 = c.extractLsb' 0 28) :
    w = c := by
  have h1 := congrArg BitVec.toNat hop
  have h2 := congrArg BitVec.toNat hlo
  simp only [toNat_opField, toNat_field] at h1 h2
  have := w.isLt
  have := c.isLt
  apply BitVec.eq_of_toNat_eq
  omega

/-- A word has a row's pattern when its masked bits are the row's (30_encoding.md R83). -/
theorem fits_iff_and (r : OpcodeRow) (w : Word) : r.fits w = true ↔ w &&& r.mask = r.pattern := by
  simp [OpcodeRow.fits]

end Sys2Proof
end

