-- ==== Sys2Proof/Laws/PerInstr.lean ====
section
/-! SUPPORT. Statements made of every command as syntax, one lemma per constructor. Family Pattern: a command's word has
the pattern the opcode map gives its command (30_encoding.md R83), whatever its operands. -/

namespace Sys2Proof.Laws.Pattern

/-- The command's word has its command's pattern (30_encoding.md R83). -/
def Statement (i : Instr) : Prop := i.row.fits (encode i) = true

theorem openCmd : Statement .openCmd := rfl

theorem closeCmd : Statement .closeCmd := rfl

theorem setLine (v : Level) : Statement (.setLine v) := by cases v <;> rfl

theorem emitPulse (h l : BitVec 8) : Statement (.emitPulse h l) := by
  rw [Statement, fits_iff_and]
  apply BitVec.eq_of_getLsbD_eq
  intro k hk
  simp only [Instr.row, encode, BitVec.getLsbD_and, BitVec.getLsbD_append]
  interval_cases k <;> simp

theorem emitSymbol (sym : BitVec 2) : Statement (.emitSymbol sym) := by unfold Statement; revert sym; decide

theorem transmit : Statement .transmit := rfl

end Sys2Proof.Laws.Pattern
end

