-- ==== Sys2Proof/Tests/Slice0.lean ====
section
/-! SUPPORT. The model's own tests: expected values from 30_encoding.md R83 and 95_test_vectors.md (each test names its
vector), and for every statement with hypotheses a named witness that meets them. -/

namespace Sys2Proof.Tests

open Sys2Proof.Machine

/-! ## States to start from -/

/-- A DIRECT block, open, on the reference parameters and the conventions of 95_test_vectors.md: ACTIVE_PL 350, OFFSET 17. -/
def openBlock : State :=
  { State.reset with isOpen := true, activePl := 350#32, lineSel := 0x000011#24, activeLine := 0x000011#24 }

/-- The same block built for BOARD. -/
def openBoard : State := { openBlock with cfg := { Config.reference with backend := .board } }

/-- A closed DIRECT block, configured. -/
def closedBlock : State := { State.reset with lineSel := 0x000011#24 }

/-- A closed BOARD block, configured. -/
def closedBoard : State := { closedBlock with cfg := { Config.reference with backend := .board } }

/-- A block whose parameters put the window at a nonzero address. -/
def farBlock : State := { openBlock with cfg := { Config.reference with base := 0x1000 } }

/-- EMIT_PULSE 3, 1 in the given sequencer state. -/
def pulsing (fsm : Fsm) : State := { openBlock with fsm := fsm, op := .emitPulse, h := 3#8, l := 1#8, setcnt := 1#32 }

/-- TRANSMIT of code 5 in its last low phase cycle, at symbol `i` of repetition `r`. -/
def endOfSymbol (r : BitVec 4) (i : BitVec 5) : State :=
  { openBlock with fsm := .tLow, op := .transmit, frame := 5#24, rep := r, symIdx := i, phase := true, rem := 1 }

/-! ## WellFormed smoke: each check refuses an ill-formed command (30_encoding.md R86) -/

theorem test_wf_refuses_zero_high : (Instr.emitPulse 0#8 1#8).wf = false := by decide

theorem test_wf_refuses_zero_low : (Instr.emitPulse 1#8 0#8).wf = false := by decide

theorem test_wf_refuses_symbol_three : (Instr.emitSymbol 3#2).wf = false := by decide

theorem test_wf_takes_the_rest :
    Instr.openCmd.wf ∧ Instr.closeCmd.wf ∧ (Instr.setLine true).wf ∧ (Instr.emitPulse 255#8 1#8).wf ∧
    (Instr.emitSymbol 2#2).wf ∧ Instr.transmit.wf := by decide

theorem test_config_wf : Config.reference.wf = true ∧ ({ Config.reference with clkPerUs := 0 } : Config).wf = false ∧
    ({ Config.reference with base := 32 } : Config).wf = false := by decide

/-! ## Decoding: words written out bit by bit (30_encoding.md R80 to R86) -/

theorem test_decode_open : decode 0b00010000000000000000000000000000#32 = .command .openCmd := by decide

theorem test_decode_close : decode 0b00100000000000000000000000000000#32 = .command .closeCmd := by decide

theorem test_decode_setLine : decode 0b00110000000000000000000000000001#32 = .command (.setLine true) := by decide

theorem test_decode_emitPulse :
    decode 0b01000000000000001010010100001111#32 = .command (.emitPulse 0xA5#8 0x0F#8) := by decide

theorem test_decode_emitSymbol : decode 0b01010000000000000000000000000010#32 = .command (.emitSymbol 2#2) := by decide

theorem test_decode_transmit : decode 0b01100000000000000000000000000000#32 = .command .transmit := by decide

theorem test_decode_illegal :
    decode 0x10000001#32 = .illegalOp ∧ decode 0x28000000#32 = .illegalOp ∧ decode 0x30000002#32 = .illegalOp ∧
    decode 0x40010101#32 = .illegalOp ∧ decode 0x40100000#32 = .illegalOp ∧ decode 0x50000007#32 = .illegalOp ∧
    decode 0x60000001#32 = .illegalOp ∧ decode 0x70000000#32 = .illegalOp ∧ decode 0xFFFFFFFF#32 = .illegalOp := by decide

theorem test_decodeTableWord :
    decodeTableWord 32 0x40000301 = some (.emitPulse 3#8 1#8) ∧ decodeTableWord 32 0x00000000 = none := by decide

/-! ## One step each (95_test_vectors.md) -/

/-- After reset OPEN finds NO_PIN: CFG_PIN, no request, STATUS 0x54 (P3, cycles 0 and 1). -/
theorem test_open_from_reset : ∃ t, step (State.reset.withFetchWord 32 0x10000000) = .next t ∧
    t.readReg .status = 0x00000054#32 ∧ t.out.lreq = none := ⟨_, step_eq_next _, by decide⟩

/-- V1: OPEN(0, 17), and the active copies are latched before the answer. -/
theorem test_open : ∃ t, exec .openCmd closedBlock = .next t ∧ t.out.lreq = some (.openLine 0#8 17#16) ∧
    t.readReg .activePl = 350#32 ∧ t.readReg .activeLine = 0x11#32 ∧ t.fsm = .wOpen := ⟨_, rfl, by decide⟩

/-- V9: RELEASE(0, 17). -/
theorem test_close : ∃ t, exec .closeCmd openBlock = .next t ∧ t.out.lreq = some (.releaseLine 0#8 17#16) ∧
    t.isOpen = true := ⟨_, rfl, by decide⟩

/-- V8: CLOSE while closed completes with OK. -/
theorem test_close_closed : ∃ t, exec .closeCmd closedBlock = .next t ∧ t.readReg .status = 0x00000004#32 :=
  ⟨_, rfl, by decide⟩

/-- V12: SET(1) in the accept cycle, counted. -/
theorem test_setLine : ∃ t, exec (.setLine true) openBlock = .next t ∧ t.out.lreq = some (.setLine true) ∧
    t.readReg .setcnt = 1#32 := ⟨_, rfl, by decide⟩

/-- V15: on a BOARD block SET_LINE looks the line up first. -/
theorem test_setLine_board : ∃ t, exec (.setLine true) openBoard = .next t ∧
    t.out.lreq = some (.lookupLine 0#8 17#16) ∧ t.readReg .setcnt = 0#32 := ⟨_, rfl, by decide⟩

/-- V20: EMIT_PULSE 3, 1 issues SET(1) in its accept cycle. -/
theorem test_emitPulse : ∃ t, exec (.emitPulse 3#8 1#8) openBlock = .next t ∧ t.out.lreq = some (.setLine true) ∧
    (t.h, t.l) = (3#8, 1#8) := ⟨_, rfl, by decide⟩

/-- V28: an illegal operand beats NOT_OPEN. -/
theorem test_emitPulse_illegal : ∃ t, exec (.emitPulse 0#8 0#8) closedBlock = .next t ∧
    t.readReg .status = 0x00000024#32 ∧ t.out.lreq = none := ⟨_, rfl, by decide⟩

/-- S6: SYNC is (1, 31). -/
theorem test_emitSymbol : ∃ t, exec (.emitSymbol 2#2) openBlock = .next t ∧ t.out.lreq = some (.setLine true) ∧
    (t.h, t.l) = (1#8, 31#8) := ⟨_, rfl, by decide⟩

/-- P3, cycles 23 and 24: SYM = 3 is ILLEGAL_OPERAND. -/
theorem test_emitSymbol_illegal : ∃ t, exec (.emitSymbol 3#2) openBoard = .next t ∧
    t.readReg .status = 0x00000026#32 := ⟨_, rfl, by decide⟩

/-- V35: the first symbol of code 0xA5A5A5 is ONE, (3, 1), and FRAME holds the code. -/
theorem test_transmit : ∃ t, exec .transmit { openBlock with code := 0x00A5A5A5#32 } = .next t ∧
    t.out.lreq = some (.setLine true) ∧ (t.h, t.l) = (3#8, 1#8) ∧ t.readReg .frame = 0x00A5A5A5#32 := ⟨_, rfl, by decide⟩

/-- V33: RANGE beats NOT_OPEN. -/
theorem test_transmit_range : ∃ t, exec .transmit { closedBlock with code := 0x01000000#32 } = .next t ∧
    t.err = .range ∧ t.readReg .frame = 0#32 := ⟨_, rfl, by decide⟩

/-- V2: an ERR to OPEN ends it with LINE; STATUS 0x84, ERR_INFO 0x01000011. -/
theorem test_open_error : ∃ t,
    step ({ closedBlock with fsm := .wOpen, op := .openCmd, activeLine := 0x11#24 }.withInput (.of .err none)) = .next t ∧
    t.readReg .status = 0x00000084#32 ∧ t.readReg .errInfo = 0x01000011#32 := ⟨_, step_eq_next _, by decide⟩

/-- V24: an ERR to SET(1) ends the pulse with LINE; ERR_INFO 0x0A000011, no SET(0). -/
theorem test_pulse_error : ∃ t, step ((pulsing .wSetH).withInput (.of .err none)) = .next t ∧
    t.readReg .errInfo = 0x0A000011#32 ∧ t.readReg .setcnt = 1#32 ∧ t.out.lreq = none := ⟨_, step_eq_next _, by decide⟩

/-- V20: 3 units of 350 microseconds are 1050 cycles. -/
theorem test_phase_length : ∃ t, step ((pulsing .wSetH).withInput (.of .ok none)) = .next t ∧
    t.fsm = .tHigh ∧ t.rem = 1050 ∧ t.readReg .status = 0x00000603#32 := ⟨_, step_eq_next _, by decide⟩

/-- V40: the 100th SET is that of SYNC of repetition 1; an ERR to it gives STATUS 0x01180786. -/
theorem test_transmit_error : ∃ t,
    step ({ endOfSymbol 1#4 24#5 with
      fsm := .wSetL, setcnt := 100#32, lineValid := true, lineLevel := true }.withInput (.of .err none)) = .next t ∧
    t.readReg .status = 0x01180786#32 ∧ t.readReg .errInfo = 0x02000011#32 := ⟨_, step_eq_next _, by decide⟩

/-- S1: after symbol 20 of code 5 comes a ONE (symbol 21), and SYNC after symbol 23. -/
theorem test_next_symbol : ∃ t u,
    step (endOfSymbol 0#4 20#5) = .next t ∧ step (endOfSymbol 0#4 23#5) = .next u ∧
    (t.h, t.l) = (3#8, 1#8) ∧ t.symIdx = 21#5 ∧ (u.h, u.l) = (1#8, 31#8) ∧ u.symIdx = 24#5 :=
  ⟨_, _, step_eq_next _, step_eq_next _, by decide⟩

/-- V52: a completion in the cycle of a W1C write of DONE leaves DONE at 1. -/
theorem test_completion_beats_clear : ∃ t,
    step ({ pulsing .tLow with rem := 1, phase := true, lineValid := true }.withInput
      (.of .none (some (writeOf Config.reference .status 4#32)))) = .next t ∧
    t.readReg .status = 0x00000306#32 := ⟨_, step_eq_next _, by decide⟩

/-- V50: a CMD write while a pulse runs is rejected. -/
theorem test_reject : ∃ t,
    step ({ pulsing .tHigh with rem := 9 }.withInput (.of .none (some (writeOf Config.reference .cmd 0x40000101#32)))) =
      .next t ∧ t.rej = true ∧ t.rem = 8 ∧ t.h = 3#8 := ⟨_, step_eq_next _, by decide⟩

/-- V65: an 8-bit read of STATUS gets a bus error and returns 0. -/
theorem test_bus_error : ∃ t, step (openBlock.withInput (.of .none (some (.read .w8 8)))) = .next t ∧
    t.out.busErr = true ∧ t.out.rdata = some 0#32 := ⟨_, step_eq_next _, by decide⟩

/-- V62: a read of ID in a reset cycle returns 0 with no bus error. -/
theorem test_read_in_reset : ∃ t,
    step (openBlock.withInput { rst := true, resp := .none, bus := some (readOf Config.reference .id) }) = .next t ∧
    t.out.rdata = some 0#32 ∧ t.out.busErr = false ∧ t.isOpen = false := ⟨_, step_eq_next _, by decide⟩

/-- P3, cycle 1436: ID of a BOARD block, read through the bus. -/
theorem test_read_id : ∃ t, step (openBoard.withInput (.of .none (some (readOf openBoard.cfg .id)))) = .next t ∧
    t.out.rdata = some 0x0101180A#32 := ⟨_, step_eq_next _, by decide⟩

/-! ## Witnesses: encoding -/

theorem witness_EncodeOfDecode :
    decode 0x40000301#32 = .command (.emitPulse 3#8 1#8) ∧ decode 0x50000003#32 = .illegalOperand (.emitSymbol 3#2) := by
  decide

theorem witness_OpcodeMapDecidesDecoding :
    decode 0x4000FFFF#32 = .command (.emitPulse 255#8 255#8) ∧ (Instr.row (.emitPulse 0#8 0#8)).fits 0x4000FFFF#32 = true ∧
    Instr.row (.emitPulse 0#8 0#8) ∈ opcodeMap := by decide

/-- Words of every clause of R84 and R85, at the boundaries of the reserved values. -/
theorem witness_ReservedWordsGiveIllegalOp :
    (openBlock.beforeBus .none).fsm = .idle ∧
    (0x0FFFFFFF#32).extractLsb' 28 4 = 0#4 ∧
    7 ≤ ((0x70000000#32).extractLsb' 28 4).toNat ∧ 7 ≤ ((0xFFFFFFFF#32).extractLsb' 28 4).toNat ∧
    ((0x10000001#32).extractLsb' 28 4 = 1#4 ∧ (0x10000001#32).extractLsb' 0 28 ≠ 0#28) ∧
    ((0x28000000#32).extractLsb' 28 4 = 2#4 ∧ (0x28000000#32).extractLsb' 0 28 ≠ 0#28) ∧
    ((0x60000001#32).extractLsb' 28 4 = 6#4 ∧ (0x60000001#32).extractLsb' 0 28 ≠ 0#28) ∧
    ((0x30000002#32).extractLsb' 28 4 = 3#4 ∧ (0x30000002#32).extractLsb' 1 27 ≠ 0#27) ∧
    ((0x40010101#32).extractLsb' 28 4 = 4#4 ∧ (0x40010101#32).extractLsb' 16 12 ≠ 0#12) ∧
    ((0x50000007#32).extractLsb' 28 4 = 5#4 ∧ (0x50000007#32).extractLsb' 2 26 ≠ 0#26) := by decide

theorem witness_OperandsOutsideTheirDomain :
    (openBlock.beforeBus .none).fsm = .idle ∧
    ((0x400000FF#32).extractLsb' 16 16 = 0x4000#16 ∧ (0x400000FF#32).extractLsb' 8 8 = 0#8) ∧
    ((0x4000FF00#32).extractLsb' 16 16 = 0x4000#16 ∧ (0x4000FF00#32).extractLsb' 0 8 = 0#8) := by decide

/-! ## Witnesses: the cycle and the registers -/

/-- A command is accepted by an idle block, and in the very cycle a pulse ends. -/
theorem witness_StepRunsAcceptedCommand :
    decode 0x60000000#32 = .command .transmit ∧ (openBlock.beforeBus .none).fsm = .idle ∧
    ({ pulsing .tLow with rem := 1 }.beforeBus .none).fsm = .idle := by decide

theorem witness_BusyBlockRejects :
    ((pulsing .wSetH).beforeBus .none).fsm ≠ .idle ∧ ((pulsing .wSetH).beforeBus .ok).fsm ≠ .idle := by decide

/-- The first and the last byte of the window. -/
theorem witness_ResetCycleClears :
    (some (Access.read .w32 0x1000) = some (.read .w32 0x1000) ∧ farBlock.cfg.base ≤ 0x1000 ∧ 0x1000 < farBlock.cfg.base + 64) ∧
    (some (Access.read .w8 0x103F) = some (.read .w8 0x103F) ∧ farBlock.cfg.base ≤ 0x103F ∧ 0x103F < farBlock.cfg.base + 64) := by
  decide

theorem witness_ResetValues : openBlock.cfg.backend = .direct ∧ openBoard.cfg.backend = .board := by decide

theorem witness_StrayResponsesIgnored :
    openBlock.fsm = .idle ∧ (pulsing .tHigh).fsm = .tHigh ∧ (pulsing .tLow).fsm = .tLow := by decide

/-- A width and an alignment that are refused, at both ends of the window. -/
theorem witness_BadAccessesGetABusError :
    (farBlock.cfg.base ≤ 0x1000 ∧ 0x1000 < farBlock.cfg.base + 64 ∧ Width.w8 ≠ .w32) ∧
    (farBlock.cfg.base ≤ 0x103F ∧ 0x103F < farBlock.cfg.base + 64 ∧ (0x103F - farBlock.cfg.base) % 4 ≠ 0) := by decide

theorem witness_ReadOnlyWritesIgnored :
    Reg.usCount ∈ [Reg.id, .activePl, .activeLine, .frame, .setcnt, .errInfo, .usCount, .reserved34, .reserved38, .reserved3C] ∧
    Reg.cmd ∈ [Reg.cmd, .reserved34, .reserved38, .reserved3C] := by decide

/-- A command that completes in the cycle of the STATUS write. -/
theorem witness_StatusWriteOneToClear : ({ pulsing .tLow with rem := 1 }.beforeBus .none).out.completed = true := by decide

theorem witness_OutsideAccessesDoNotReach :
    0xFFF < farBlock.cfg.base ∧ farBlock.cfg.base + 64 ≤ 0x1040 := by decide

theorem witness_IdIsConstant : step openBlock = .next openBlock.after := step_eq_next _

/-! ## Witnesses: the commands. The clauses of each statement, each met by a state -/

theorem witness_OpenRuns :
    openBlock.isOpen = true ∧
    (State.reset.isOpen = false ∧ State.reset.lineSel.extractLsb' 0 16 = 0xFFFF#16) ∧
    ({ closedBlock with pulseLen := 0#32 }.isOpen = false ∧
      { closedBlock with pulseLen := 0#32 }.lineSel.extractLsb' 0 16 ≠ 0xFFFF#16 ∧
      { closedBlock with pulseLen := 0#32 }.pulseLen.toInt < 1) ∧
    (closedBlock.isOpen = false ∧ closedBlock.lineSel.extractLsb' 0 16 ≠ 0xFFFF#16 ∧
      1 ≤ { closedBlock with pulseLen := 1#32 }.pulseLen.toInt ∧ closedBlock.cfg.backend = .direct ∧
      closedBoard.cfg.backend = .board) := by decide

theorem witness_CloseRuns :
    closedBlock.isOpen = false ∧ (openBlock.isOpen = true ∧ openBlock.cfg.backend = .direct) ∧
    (openBoard.isOpen = true ∧ openBoard.cfg.backend = .board) := by decide

theorem witness_SetLineRuns :
    closedBlock.isOpen = false ∧ (openBlock.isOpen = true ∧ openBlock.cfg.backend = .direct) ∧
    (openBoard.isOpen = true ∧ openBoard.cfg.backend = .board) := by decide

theorem witness_EmitPulseRuns :
    (1#8 ≠ 0#8 ∧ 255#8 ≠ 0#8) ∧ closedBlock.isOpen = false ∧
    (openBlock.isOpen = true ∧ openBlock.cfg.backend = .direct) ∧
    (openBoard.isOpen = true ∧ openBoard.cfg.backend = .board) := by decide

theorem witness_EmitSymbolRuns :
    (2#2 = 2#2 ∧ 1#8 = 1#8 ∧ 31#8 = 31#8) ∧ closedBlock.isOpen = false ∧
    (openBlock.isOpen = true ∧ openBlock.cfg.backend = .direct) ∧
    (openBoard.isOpen = true ∧ openBoard.cfg.backend = .board) := by decide

/-- The codes at both ends of the range, and one step outside each. -/
theorem witness_TransmitRuns :
    (0xFFFFFFFF#32).toInt < 0 ∧ 2 ^ 24 ≤ (0x01000000#32).toInt ∧
    (0 ≤ (0#32).toInt ∧ (0#32).toInt < 2 ^ 24 ∧ (0#32).getLsbD 23 = false) ∧
    (0 ≤ (0x00FFFFFF#32).toInt ∧ (0x00FFFFFF#32).toInt < 2 ^ 24 ∧ (0x00FFFFFF#32).getLsbD 23 = true) ∧
    closedBlock.isOpen = false ∧ (openBlock.isOpen = true ∧ openBlock.cfg.backend = .direct) ∧
    (openBoard.isOpen = true ∧ openBoard.cfg.backend = .board) := by decide

theorem witness_AcceptFrame :
    exec .transmit openBlock = .next (acceptCommand .transmit openBlock) ∧ Instr.transmit ≠ .openCmd ∧
    Instr.transmit ≠ .closeCmd ∧ Instr.openCmd ≠ .transmit ∧ Instr.transmit ≠ .setLine true := ⟨rfl, by decide⟩

theorem witness_ErrorsChangeOnlyBookkeeping :
    ∃ t, exec (.setLine true) closedBlock = .next t ∧ t.err ≠ .ok := ⟨_, rfl, by decide⟩

/-! ## Witnesses: the sequencer -/

theorem witness_LifecycleAnswersOk :
    { closedBlock with fsm := .wOpen }.fsm = .wOpen ∧ { openBlock with fsm := .wRelease }.fsm = .wRelease ∧
    ({ openBoard with fsm := .wLookup, op := .setLine }.fsm = .wLookup ∧
      { openBoard with fsm := .wLookup, op := .setLine }.op = .setLine) ∧
    ({ openBoard with fsm := .wLookup, op := .transmit }.fsm = .wLookup ∧
      { openBoard with fsm := .wLookup, op := .transmit }.op = .transmit) := by decide

theorem witness_SetAnsweredOk :
    { openBlock with fsm := .wSetV }.fsm = .wSetV ∧ (pulsing .wSetH).fsm = .wSetH ∧ (pulsing .wSetL).fsm = .wSetL := by decide

theorem witness_LineErrorEndsTheCommand :
    { openBlock with fsm := .wRelease }.fsm = .wRelease ∧ (pulsing .wSetH).fsm = .wSetH ∧
    { openBlock with fsm := .wSetV, v := true }.fsm = .wSetV ∧ (true : Level) = { openBlock with fsm := .wSetV, v := true }.v := by
  decide

theorem witness_PhaseTimerIsExact : Trace (runFrom { pulsing .tHigh with rem := 3 }) ∧
    (runFrom { pulsing .tHigh with rem := 3 } 0).fsm.timing = true ∧ (runFrom { pulsing .tHigh with rem := 3 } 0).rem = 2 + 1 ∧
    (∀ k, k ≤ 2 → (runFrom { pulsing .tHigh with rem := 3 } k).input.rst = false) ∧
    (runFrom { pulsing .tHigh with rem := 3 } 0).fsm = .tHigh := by
  refine ⟨runFrom_trace _, by decide, by decide, ?_, by decide⟩
  intro k _
  rw [State.input, trace_inputs (runFrom_trace _) k]
  cases k <;> rfl

/-- The low phase of EMIT_PULSE with three cycles left, and of a TRANSMIT symbol in its last cycle. -/
theorem witness_PhaseTimerIsExact_low :
    (Trace (runFrom { pulsing .tLow with rem := 3 }) ∧ (runFrom { pulsing .tLow with rem := 3 } 0).fsm = .tLow ∧
      (runFrom { pulsing .tLow with rem := 3 } 0).op.pulses = true ∧ (runFrom { pulsing .tLow with rem := 3 } 0).rem = 2 + 1 ∧
      ∀ k, k ≤ 2 → (runFrom { pulsing .tLow with rem := 3 } k).input.rst = false) ∧
    (Trace (runFrom (endOfSymbol 8#4 24#5)) ∧ (runFrom (endOfSymbol 8#4 24#5) 0).fsm = .tLow ∧
      (runFrom (endOfSymbol 8#4 24#5) 0).op.pulses = true ∧ (runFrom (endOfSymbol 8#4 24#5) 0).rem = 0 + 1 ∧
      ∀ k, k ≤ 0 → (runFrom (endOfSymbol 8#4 24#5) k).input.rst = false) :=
  ⟨⟨runFrom_trace _, by decide, by decide, by decide, by decide⟩,
    ⟨runFrom_trace _, by decide, by decide, by decide, by decide⟩⟩

theorem witness_PhaseEnds :
    ({ pulsing .tHigh with rem := 1 }.rem = 1 ∧ { pulsing .tHigh with rem := 1 }.fsm = .tHigh) ∧
    ({ pulsing .tLow with rem := 1 }.fsm = .tLow ∧ { pulsing .tLow with rem := 1 }.op = .emitPulse) ∧
    ((endOfSymbol 9#4 24#5).rem = 1 ∧ (endOfSymbol 9#4 24#5).symIdx = 24#5 ∧ (endOfSymbol 9#4 24#5).rep = 9#4 ∧
      (endOfSymbol 9#4 24#5).op = .transmit) ∧
    ((endOfSymbol 8#4 24#5).rem = 1 ∧ ¬ ((endOfSymbol 8#4 24#5).symIdx = 24#5 ∧ (endOfSymbol 8#4 24#5).rep = 9#4)) ∧
    ((endOfSymbol 9#4 23#5).rem = 1 ∧ ¬ ((endOfSymbol 9#4 23#5).symIdx = 24#5 ∧ (endOfSymbol 9#4 23#5).rep = 9#4) ∧
      (endOfSymbol 9#4 23#5).symIdx ≠ 24#5) := by decide

theorem witness_RenderingIsTheCode : 0 < 24 ∧ 23 < 24 := by decide

/-! ## Witnesses: the whole machine -/

theorem witness_InvariantAtReset : Config.reference.wf = true := by decide

/-- The invariant holds of an open idle block. -/
theorem openBlock_inv : openBlock.Inv where
  cfgWf := by decide
  usPre := by decide
  usCount := by decide
  rep := by decide
  symIdx := by decide
  activePl := fun _ => by unfold State.plLegal; decide
  lineValid := by decide
  setcnt := by decide
  busy := by decide
  errLine := fun h => absurd h (by decide)
  errOther := by decide
  fsm := trivial

/-- The invariant does not look at the inputs. -/
theorem openBlock_inv_with (inp : List CycleInput) : { openBlock with inputs := inp }.Inv :=
  have h := openBlock_inv
  ⟨h.cfgWf, h.usPre, h.usCount, h.rep, h.symIdx, h.activePl, h.lineValid, h.setcnt, h.busy, h.errLine, h.errOther, h.fsm⟩

theorem witness_InvariantKept : openBlock.Inv ∧ step openBlock = .next openBlock.after := ⟨openBlock_inv, step_eq_next _⟩

/-- V56: CLK_PER_US = 3. -/
theorem witness_UsCountCountsMicroseconds :
    let c : Config := { Config.reference with clkPerUs := 3 }
    Trace (runFrom (State.resetWith c [])) ∧ c.wf = true ∧ runFrom (State.resetWith c []) 0 = State.resetWith c [] ∧
    ∀ j, j < 7 → (runFrom (State.resetWith c []) j).input.rst = false := by
  refine ⟨runFrom_trace _, by decide, rfl, ?_⟩
  intro k _
  rw [State.input, trace_inputs (runFrom_trace _) k]
  cases k <;> rfl

theorem witness_OneRequestOutstanding : ∃ t, step (openBlock.withFetchWord 32 0x30000001) = .next t ∧
    t.out.lreq ≠ none ∧ t.fsm.waiting = true := ⟨_, step_eq_next _, by decide⟩

theorem witness_NoSetWhileClosed :
    let s := { openBlock with inputs := [.of .none (some (writeOf Config.reference .cmd 0x30000001#32))] }
    s.Inv ∧ ∃ t, step s = .next t ∧ t.out.lreq = some (.setLine true) :=
  ⟨openBlock_inv_with _, _, step_eq_next _, by decide⟩

theorem witness_OpenChangesOnlyByOpenAndClose :
    (∃ t, step ({ closedBlock with fsm := .wOpen }.withInput (.of .ok none)) = .next t ∧ t.isOpen = true) ∧
    (∃ t, step (openBoard.withInput (.of .none (some (writeOf openBoard.cfg .cmd 0x20000000#32)))) = .next t ∧
      t.isOpen = false) := ⟨⟨_, step_eq_next _, by decide⟩, ⟨_, step_eq_next _, by decide⟩⟩

theorem witness_DoneMeansCompleted :
    (∃ t, step ({ pulsing .tLow with rem := 1 }.withInput (.of .none none)) = .next t ∧ t.done = true) ∧
    (∃ t, step ({ openBlock with done := true }.withInput (.of .none (some (writeOf Config.reference .status 4#32)))) =
      .next t ∧ t.done = false) := ⟨⟨_, step_eq_next _, by decide⟩, ⟨_, step_eq_next _, by decide⟩⟩

theorem witness_RejMeansRejected :
    (∃ t, step ((pulsing .wSetH).withInput (.of .none (some (writeOf Config.reference .cmd 0#32)))) = .next t ∧
      cmdWritten Config.reference (some (writeOf Config.reference .cmd 0#32)) ≠ none ∧
      ((pulsing .wSetH).beforeBus .none).fsm ≠ .idle ∧ t.rej = true) ∧
    (∃ t, step ({ openBlock with rej := true }.withInput (.of .none (some (writeOf Config.reference .status 8#32)))) =
      .next t ∧ t.rej = false) := ⟨⟨_, step_eq_next _, by decide⟩, ⟨_, step_eq_next _, by decide⟩⟩

theorem witness_LineRecordFollowsOkSets : ∃ t, step ((pulsing .wSetH).withInput (.of .ok none)) = .next t ∧
    (pulsing .wSetH).lineValid = false ∧ t.lineValid = true ∧ t.lineLevel ≠ (pulsing .wSetH).lineLevel :=
  ⟨_, step_eq_next _, by decide⟩

/-- V54: with DONE = 1, a write of IE = 1 raises irq. -/
theorem witness_IrqRisesOnlyByCompletion : ∃ t,
    step ({ openBlock with done := true }.withInput (.of .none (some (writeOf Config.reference .ctrl 1#32)))) = .next t ∧
    { openBlock with done := true }.irq = false ∧ t.irq = true := ⟨_, step_eq_next _, by decide⟩

theorem witness_FrameHoldsTheCode : ∃ t,
    step ({ openBlock with code := 5#32 }.withInput (.of .none (some (writeOf Config.reference .cmd 0x60000000#32)))) =
      .next t ∧ t.frame ≠ openBlock.frame := ⟨_, step_eq_next _, by decide⟩

theorem witness_ActiveCopiesChangeOnlyByOpen : ∃ t,
    step (closedBlock.withInput (.of .none (some (writeOf Config.reference .cmd 0x10000000#32)))) = .next t ∧
    t.activePl ≠ closedBlock.activePl ∧ t.activeLine ≠ closedBlock.activeLine := ⟨_, step_eq_next _, by decide⟩

theorem witness_SetcntCountsRequests :
    let s := openBlock.withInput (.of .none (some (writeOf Config.reference .cmd 0x30000001#32)))
    (∃ t, step s = .next t ∧ s.input.rst = false ∧ cmdWritten s.cfg s.input.bus ≠ none ∧
      (s.beforeBus s.input.resp).fsm = .idle) ∧
    (∃ t, step { pulsing .tHigh with rem := 1 } = .next t ∧ t.out.lreq = some (.setLine false)) :=
  ⟨⟨_, step_eq_next _, by decide⟩, ⟨_, step_eq_next _, by decide⟩⟩

theorem witness_SetNumberNamesTheSymbol :
    let s := { openBlock with code := 5#32, inputs := [.of .none (some (writeOf Config.reference .cmd 0x60000000#32))] }
    s.Inv ∧ ∃ t, step s = .next t ∧ t.out.lreq = some (.setLine true) ∧ t.op = .transmit :=
  have h := openBlock_inv
  ⟨⟨h.cfgWf, h.usPre, h.usCount, h.rep, h.symIdx, h.activePl, h.lineValid, h.setcnt, h.busy, h.errLine, h.errOther, h.fsm⟩,
    _, step_eq_next _, by decide⟩

/-- V42: a write to CODE while a TRANSMIT runs. -/
theorem witness_OperandRegistersDoNotDisturb :
    let s := (endOfSymbol 0#4 3#5).withInput (.of .none (some (writeOf Config.reference .code 7#32)))
    step s = .next s.after ∧
    step { s with code := 1#32, pulseLen := 2#32, lineSel := 3#24 } =
      .next { s with code := 1#32, pulseLen := 2#32, lineSel := 3#24 }.after ∧
    ¬ (cmdWritten s.cfg s.input.bus ≠ none ∧ (s.beforeBus s.input.resp).fsm = .idle) ∧
    regRead s.cfg s.input.bus ∉ [some Reg.code, some Reg.pulseLen, some Reg.lineSel] :=
  ⟨step_eq_next _, step_eq_next _, by decide, by decide⟩

/-- A read of a register other than the three, and of one of them. -/
theorem witness_regRead :
    regRead farBlock.cfg (some (readOf farBlock.cfg .frame)) = some .frame ∧
    regRead farBlock.cfg (some (readOf farBlock.cfg .code)) = some .code ∧
    regRead farBlock.cfg (some (.read .w8 (farBlock.cfg.base + Reg.offset .code))) = none := by decide

theorem witness_UsCountDrivesNothing :
    step openBlock = .next openBlock.after ∧
    step { openBlock with usCount := BitVec.ofNat 32 7, usPre := 3, cyc := 9 } =
      .next { openBlock with usCount := BitVec.ofNat 32 7, usPre := 3, cyc := 9 }.after ∧
    regRead openBlock.cfg openBlock.input.bus ≠ some .usCount := ⟨step_eq_next _, step_eq_next _, by decide⟩

/-- Two runs of a high phase of three cycles, one with a host that writes CMD and CODE. -/
theorem witness_HostsCannotDisturbACommand :
    let s := { pulsing .tHigh with rem := 3 }
    let s' := { s with inputs := [.of .none (some (writeOf Config.reference .cmd 0x20000000#32)),
      .of .none (some (writeOf Config.reference .code 7#32))] }
    Trace (runFrom s) ∧ Trace (runFrom s') ∧ (runFrom s 0).commandView = (runFrom s' 0).commandView ∧
    (∀ k, k < 2 → (runFrom s k).input.rst = (runFrom s' k).input.rst ∧ (runFrom s k).input.resp = (runFrom s' k).input.resp) ∧
    (∀ k, k < 2 → (runFrom s k).fsm ≠ .idle ∧ (runFrom s (k + 1)).out.completed = false) :=
  ⟨runFrom_trace _, runFrom_trace _, by decide, by decide, by decide⟩

theorem witness_SymbolIsItsPulse :
    let s := openBlock.withInput (.of .none (some (writeOf openBlock.cfg .cmd (encode (.emitSymbol 1#2)))))
    let s' := openBlock.withInput (.of .none (some (writeOf openBlock.cfg .cmd (encode (.emitPulse (ratio .one).1 (ratio .one).2)))))
    Trace (runFrom s) ∧ Trace (runFrom s') ∧ symbolOf 1#2 = some .one ∧ runFrom s 0 = s ∧ runFrom s' 0 = s' :=
  ⟨runFrom_trace _, runFrom_trace _, by decide, rfl, rfl⟩

/-- V21: EMIT_PULSE 1, 1 at ACTIVE_PL = 1, every answer after one cycle. -/
def shortPulse : State :=
  { openBlock with
    activePl := 1#32
    inputs := [.of .none (some (writeOf Config.reference .cmd 0x40000101#32)), .of .ok none, .quiet, .of .ok none] }

theorem shortPulse_inv : shortPulse.Inv :=
  have h := openBlock_inv
  ⟨h.cfgWf, h.usPre, h.usCount, h.rep, h.symIdx, fun _ => by unfold State.plLegal; decide, h.lineValid, h.setcnt, h.busy,
    h.errLine, h.errOther, h.fsm⟩

/-- The run of V21, cycle by cycle: it ends in cycle 4. -/
theorem shortPulse_run :
    (∀ k, k < 4 → RunsOn (runFrom shortPulse) (k + 1)) ∧
    (∀ k, k < 3 → (runFrom shortPulse (k + 2)).out.completed = false) := by unfold RunsOn; decide

theorem witness_CommandDuration :
    Trace (runFrom shortPulse) ∧ (runFrom shortPulse 0).Inv ∧ decode 0x40000101#32 = .command (.emitPulse 1#8 1#8) ∧
    CommandAtStart (runFrom shortPulse) 0x40000101#32 ∧ 1 ≤ 4 ∧
    (∀ k, 1 ≤ k → k ≤ 4 → RunsOn (runFrom shortPulse) k) ∧
    (∀ k, 1 ≤ k → k < 4 → (runFrom shortPulse (k + 1)).out.completed = false) ∧
    cmdWritten (runFrom shortPulse 4).cfg (runFrom shortPulse 4).input.bus = none ∧
    (runFrom shortPulse (4 + 1)).out.completed = true := by
  refine ⟨runFrom_trace _, shortPulse_inv, by decide, by unfold CommandAtStart; decide, by decide, ?_, ?_, by decide, by decide⟩
  · intro k h1 h2
    obtain ⟨j, rfl⟩ : ∃ j, k = j + 1 := ⟨k - 1, by omega⟩
    exact shortPulse_run.1 j (by omega)
  · intro k h1 h2
    obtain ⟨j, rfl⟩ : ∃ j, k = j + 1 := ⟨k - 1, by omega⟩
    exact shortPulse_run.2 j (by omega)

theorem witness_CommandsComplete :
    Trace (runFrom shortPulse) ∧ (runFrom shortPulse 0).Inv ∧ decode 0x40000101#32 = .command (.emitPulse 1#8 1#8) ∧
    CommandAtStart (runFrom shortPulse) 0x40000101#32 ∧
    (∀ k, 1 ≤ k → k ≤ 4 → RunsOn (runFrom shortPulse) k) ∧
    (∀ k, 1 ≤ k → k < 4 → (runFrom shortPulse (k + 1)).out.completed = false) ∧
    (∀ k, 1 ≤ k → k + 1 ≤ 4 + 1 → ∃ j, j < 1 ∧
      ((runFrom shortPulse (k + j)).fsm.waiting = false ∨ (runFrom shortPulse (k + j)).input.resp = .ok)) := by
  refine ⟨runFrom_trace _, shortPulse_inv, by decide, witness_CommandDuration.2.2.2.1, witness_CommandDuration.2.2.2.2.2.1, witness_CommandDuration.2.2.2.2.2.2.1, ?_⟩
  intro k h1 h2
  have h : ∀ k, k < 4 → (runFrom shortPulse (k + 1)).fsm.waiting = false ∨ (runFrom shortPulse (k + 1)).input.resp = .ok := by
    decide
  obtain ⟨j, rfl⟩ : ∃ j, k = j + 1 := ⟨k - 1, by omega⟩
  exact ⟨0, by decide, h j (by omega)⟩

/-- V64: a SET that is never answered. -/
theorem witness_UnansweredRequestHangs :
    Trace (runFrom (pulsing .wSetH)) ∧ (runFrom (pulsing .wSetH) 0).fsm.waiting = true ∧
    ∀ k, (runFrom (pulsing .wSetH) k).input.rst = false ∧ (runFrom (pulsing .wSetH) k).input.resp = .none := by
  refine ⟨runFrom_trace _, by decide, ?_⟩
  intro k
  rw [State.input, trace_inputs (runFrom_trace _) k]
  cases k <;> exact ⟨rfl, rfl⟩

theorem witness_IdleBlockStaysSilent :
    Trace (runFrom openBlock) ∧ (runFrom openBlock 0).fsm = .idle ∧
    ∀ k, k < 3 → (runFrom openBlock k).input.rst = false ∧
      cmdWritten (runFrom openBlock k).cfg (runFrom openBlock k).input.bus = none :=
  ⟨runFrom_trace _, by decide, by decide⟩

end Sys2Proof.Tests
end

/-! ## What part 2 and an accept can do, as relations with named cases -/

namespace Sys2Proof.Machine

/-- What part 2 of a cycle can do to the state (20_memory.md R68): the cases of `sequencer_cases`, named. -/
inductive SeqStep (resp : Resp) (s : State) : State → Prop
  | rests (hf : s.fsm = .idle) : SeqStep resp s s
  | waits (hf : s.fsm.waiting = true) (hresp : resp = .none) : SeqStep resp s s
  | counts (hf : s.fsm.timing = true) (hrem : s.rem - 1 ≠ 0) : SeqStep resp s { s with rem := s.rem - 1 }
  | opened (hf : s.fsm = .wOpen) (hresp : resp = .ok) : SeqStep resp s (complete .ok { s with isOpen := true })
  | released (hf : s.fsm = .wRelease) (hresp : resp = .ok) : SeqStep resp s (complete .ok (closeBlock s))
  | releaseFails (hf : s.fsm = .wRelease) (hresp : resp = .err) :
      SeqStep resp s (lineFail .releaseLine false (closeBlock s))
  | foundForSet (hf : s.fsm = .wLookup) (hresp : resp = .ok) (hop : s.op = .setLine) :
      SeqStep resp s (issueSet s.v { s with fsm := .wSetV })
  | foundForPulse (hf : s.fsm = .wLookup) (hresp : resp = .ok) (hop : s.op ≠ .setLine) :
      SeqStep resp s (startPulse s.h s.l s)
  | lineSet (hf : s.fsm = .wSetV) (hresp : resp = .ok) : SeqStep resp s (complete .ok (recordLevel s.v s))
  | highSet (hf : s.fsm = .wSetH) (hresp : resp = .ok) :
      SeqStep resp s (startPhase s.h { recordLevel true s with fsm := .tHigh })
  | lowSet (hf : s.fsm = .wSetL) (hresp : resp = .ok) :
      SeqStep resp s (startPhase s.l { recordLevel false s with fsm := .tLow })
  | fails (kind : ReqKind) (level : Level) (hf : s.fsm.waiting = true) (hresp : resp = .err)
      (hlevel : kind ≠ .setLine → level = false) : SeqStep resp s (lineFail kind level s)
  | highEnds (hf : s.fsm = .tHigh) (hrem : s.rem - 1 = 0) :
      SeqStep resp s (issueSet false { s with rem := 0, phase := true, fsm := .wSetL })
  | ends (hf : s.fsm = .tLow) (hrem : s.rem - 1 = 0) : SeqStep resp s (complete .ok { s with rem := 0 })
  | nextPulse (hf : s.fsm = .tLow) (hrem : s.rem - 1 = 0) (hop : s.op = .transmit)
      (hlast : ¬ (s.symIdx = 24#5 ∧ s.rep = 9#4)) :
      SeqStep resp s (startSymbol (nextSymbol { s with rem := 0 }))
  | stuck (hf : s.fsm = .tLow) (hrem : s.rem - 1 = 0) (hop : s.op.pulses = false) :
      SeqStep resp s { s with rem := 0 }

theorem seqStep_sequencer (resp : Resp) (s : State) : SeqStep resp s (sequencer resp s) := by
  rcases sequencer_cases resp s with ⟨hf, e⟩ | ⟨hf, hr, e⟩ | ⟨hf, hr, e⟩ | ⟨hf, hr, e⟩ | ⟨hf, hr, e⟩ | ⟨hf, hr, e⟩ |
    ⟨hf, hr, hop, e⟩ | ⟨hf, hr, hop, e⟩ | ⟨hf, hr, e⟩ | ⟨hf, hr, e⟩ | ⟨hf, hr, e⟩ | ⟨hr, kind, level, -, hl, hf, e⟩ |
    ⟨hf, hr, e⟩ | ⟨hf, hr, -, e⟩ | ⟨hf, hr, hop, hlast, e⟩ | ⟨hf, hr, hop, e⟩ <;> rw [e]
  · exact .rests hf
  · exact .waits hf hr
  · exact .counts hf hr
  · exact .opened hf hr
  · exact .released hf hr
  · exact .releaseFails hf hr
  · exact .foundForSet hf hr hop
  · exact .foundForPulse hf hr hop
  · exact .lineSet hf hr
  · exact .highSet hf hr
  · exact .lowSet hf hr
  · refine .fails kind level ?_ hr hl
    rcases hf with ⟨hf, -⟩ | ⟨hf, -⟩ | ⟨hf, -⟩ | ⟨hf, -⟩ | ⟨hf, -⟩ <;> rw [hf] <;> rfl
  · exact .highEnds hf hr
  · exact .ends hf hr
  · exact .nextPulse hf hr hop hlast
  · exact .stuck hf hr hop

/-- Parts 1 and 2 of a cycle: the counters move on, and the sequencer takes a step. -/
theorem seqStep_beforeBus (resp : Resp) (s : State) : SeqStep resp s.ticked (s.beforeBus resp) :=
  seqStep_sequencer resp s.ticked

/-- What the accept of a word does, by the word's command (none for ILLEGAL_OP): the cases of `acceptCommand_cases`,
named. -/
inductive AcceptStep (cmd : Option Instr) (s : State) : State → Prop
  | ends (r : Result) (hr : r ≠ .line) : AcceptStep cmd s (complete r (acceptClear s))
  | openRequested (hcmd : cmd = some .openCmd) (hopen : s.isOpen = false) (hpin : lineOffset s.lineSel ≠ noPin)
      (hpl : pulseLenLegal s.pulseLen = true) (hb : s.cfg.backend = .direct) :
      AcceptStep cmd s (lineReq (.openLine (lineDev s.lineSel) (lineOffset s.lineSel))
        { acceptClear s with activePl := s.pulseLen, activeLine := s.lineSel, op := .openCmd, fsm := .wOpen })
  | opened (hcmd : cmd = some .openCmd) (hopen : s.isOpen = false) (hpin : lineOffset s.lineSel ≠ noPin)
      (hpl : pulseLenLegal s.pulseLen = true) :
      AcceptStep cmd s (complete .ok
        { acceptClear s with activePl := s.pulseLen, activeLine := s.lineSel, op := .openCmd, isOpen := true })
  | releaseRequested (hcmd : cmd = some .closeCmd) (hopen : s.isOpen = true) (hb : s.cfg.backend = .direct) :
      AcceptStep cmd s (lineReq (.releaseLine (lineDev s.activeLine) (lineOffset s.activeLine))
        { acceptClear s with op := .closeCmd, fsm := .wRelease })
  | closed (hcmd : cmd = some .closeCmd) (hopen : s.isOpen = true) :
      AcceptStep cmd s (complete .ok (closeBlock { acceptClear s with op := .closeCmd }))
  | lookupRequested (i : Instr) (op : OpKind) (v : Level) (h l : BitVec 8) (frame : BitVec 24) (hcmd : cmd = some i)
      (hopen : s.isOpen = true) (hstart : Starts i s op v h l frame) (hb : s.cfg.backend = .board) :
      AcceptStep cmd s (lineReq (.lookupLine (lineDev s.activeLine) (lineOffset s.activeLine))
        { acceptClear s with v := v, h := h, l := l, frame := frame, op := op, fsm := .wLookup })
  | setRequested (i : Instr) (v : Level) (h l : BitVec 8) (frame : BitVec 24) (hcmd : cmd = some i)
      (hopen : s.isOpen = true) (hstart : Starts i s .setLine v h l frame) :
      AcceptStep cmd s (issueSet v
        { acceptClear s with v := v, h := h, l := l, frame := frame, op := .setLine, fsm := .wSetV })
  | pulseStarted (i : Instr) (op : OpKind) (v : Level) (h l : BitVec 8) (frame : BitVec 24) (hcmd : cmd = some i)
      (hopen : s.isOpen = true) (hstart : Starts i s op v h l frame) (hop : op ≠ .setLine) :
      AcceptStep cmd s (startPulse h l { acceptClear s with v := v, frame := frame, op := op })

/-- A check that fails completes with a result other than LINE. -/
theorem endsAtOnce_ne_line {i : Instr} {s : State} {r : Result} (h : endsAtOnce i s r) : r ≠ .line := by
  rintro rfl
  cases i <;> simp [endsAtOnce] at h

theorem acceptStep_acceptCommand (i : Instr) (s : State) : AcceptStep (some i) s (acceptCommand i s) := by
  rcases acceptCommand_cases i s with ⟨r, hr, e⟩ | ⟨rfl, ho, hp, hl, ⟨hb, e⟩ | ⟨-, e⟩⟩ | ⟨rfl, ho, ⟨hb, e⟩ | ⟨-, e⟩⟩ |
    ⟨ho, op, v, h, l, frame, hs, ⟨hb, e⟩ | ⟨-, rfl, e⟩ | ⟨-, hop, e⟩⟩ <;> rw [e]
  · exact .ends r (endsAtOnce_ne_line hr)
  · exact .openRequested rfl ho hp hl hb
  · exact .opened rfl ho hp hl
  · exact .releaseRequested rfl ho hb
  · exact .closed rfl ho
  · exact .lookupRequested i op v h l frame rfl ho hs hb
  · exact .setRequested i v h l frame rfl ho hs
  · exact .pulseStarted i op v h l frame rfl ho hs hop

theorem acceptStep_acceptWord (w : Word) (s : State) : AcceptStep (commandOf w) s (acceptWord w s) := by
  unfold acceptWord
  cases commandOf w with
  | none => exact .ends .illegalOp (by decide)
  | some i => exact acceptStep_acceptCommand i s

/-- A command that drives the line is neither OPEN nor CLOSE. -/
theorem Starts.drivesLine {i : Instr} {s : State} {op : OpKind} {v : Level} {h l : BitVec 8} {frame : BitVec 24}
    (hs : Starts i s op v h l frame) : i ≠ .openCmd ∧ i ≠ .closeCmd := by
  constructor <;> rintro rfl <;> exact hs

/-- A reset cycle has one outcome (70_reset_and_hazards.md R200). -/
theorem eq_resetCycle {s t : State} (h : step s = .next t) (hr : s.input.rst = true) :
    t = resetCycle s.input.bus { s with inputs := s.inputs.tail } := by
  rw [step_of_reset hr, Host.Outcome.next.injEq] at h
  exact h.symm

/-- The cycle accepts a command: the host writes CMD and the sequencer is IDLE after part 2 (60_exceptions.md R170). -/
def State.accepts (s : State) : Prop :=
  cmdWritten s.cfg s.input.bus ≠ none ∧ (s.beforeBus s.input.resp).fsm = .idle

/-- A cycle with no reset accepts a word, or its bus access leaves everything alone but what a host may write or read
while a command runs (`State.commandView`). -/
theorem running_cases {s t : State} (h : step s = .next t) (hr : s.input.rst = false) :
    (∃ w, cmdWritten s.cfg s.input.bus = some w ∧ (s.beforeBus s.input.resp).fsm = .idle ∧
      AcceptStep (commandOf w) (s.beforeBus s.input.resp) t) ∨
    (¬ s.accepts ∧ t.commandView = (s.beforeBus s.input.resp).commandView) := by
  rcases step_cases h hr rfl with ⟨hw, _, _, e⟩ | ⟨w, hw, hf, e⟩ | ⟨w, -, hf, e⟩ | ⟨hw, _, _, _, _, _, e⟩ |
    ⟨hw, r, _, _, _, _, _, e⟩ <;> subst e
  · exact .inr ⟨fun ha => ha.1 hw, rfl⟩
  · exact .inl ⟨w, hw, hf, acceptStep_acceptWord w _⟩
  · exact .inr ⟨fun ha => hf ha.2, rfl⟩
  · exact .inr ⟨fun ha => ha.1 hw, rfl⟩
  · exact .inr ⟨fun ha => ha.1 hw, by cases r <;> rfl⟩

end Sys2Proof.Machine

/-! ## The invariant -/

namespace Sys2Proof.Machine

/-- The clauses of the invariant about the registers alone, which hold whatever the sequencer does. -/
structure State.RegsInv (s : State) : Prop where
  cfgWf : s.cfg.wf = true
  usPre : s.usPre = s.cfg.clkPerUs - s.cyc % s.cfg.clkPerUs
  usCount : s.usCount = BitVec.ofNat 32 (s.cyc / s.cfg.clkPerUs)
  rep : s.rep.toNat ≤ 9
  symIdx : s.symIdx.toNat ≤ 24
  activePl : s.isOpen = true → s.plLegal
  lineValid : s.lineValid = true → s.isOpen = true
  setcnt : s.setcnt.toNat ≤ 500

theorem State.Inv.regs {s : State} (h : s.Inv) : s.RegsInv :=
  ⟨h.cfgWf, h.usPre, h.usCount, h.rep, h.symIdx, h.activePl, h.lineValid, h.setcnt⟩

/-- A command in flight has no result yet (10_state.md R28, R30, R41). -/
def State.noResult (s : State) : Prop := s.done = false ∧ s.err = .ok ∧ s.errInfo = 0#32

/-- The invariant of a block with a command in flight. -/
theorem State.RegsInv.inv_of_noResult {s : State} (h : s.RegsInv) (hres : s.noResult) (hfsm : s.fsmFits) : s.Inv where
  cfgWf := h.cfgWf
  usPre := h.usPre
  usCount := h.usCount
  rep := h.rep
  symIdx := h.symIdx
  activePl := h.activePl
  lineValid := h.lineValid
  setcnt := h.setcnt
  busy _ := hres
  errLine he := by simp [hres.2.1] at he
  errOther _ := hres.2.2
  fsm := hfsm

/-- A completion with a result other than LINE meets the invariant (60_exceptions.md R174). -/
theorem State.RegsInv.complete {s : State} (h : s.RegsInv) (he : s.errInfo = 0#32) {r : Result} (hr : r ≠ .line) :
    (complete r s).Inv where
  cfgWf := h.cfgWf
  usPre := h.usPre
  usCount := h.usCount
  rep := h.rep
  symIdx := h.symIdx
  activePl := h.activePl
  lineValid := h.lineValid
  setcnt := h.setcnt
  busy hf := absurd rfl hf
  errLine hl := absurd hl hr
  errOther _ := he
  fsm := trivial

/-- A line failure meets the invariant: ERR_INFO names the active line (40_line.md R104). -/
theorem State.RegsInv.lineFail {s : State} (h : s.RegsInv) {kind : ReqKind} {level : Level}
    (hlevel : kind ≠ .setLine → level = false) : (lineFail kind level s).Inv where
  cfgWf := h.cfgWf
  usPre := h.usPre
  usCount := h.usCount
  rep := h.rep
  symIdx := h.symIdx
  activePl := h.activePl
  lineValid := h.lineValid
  setcnt := h.setcnt
  busy hf := absurd rfl hf
  errLine _ := ⟨kind, level, rfl, hlevel⟩
  errOther hl := absurd rfl hl
  fsm := trivial

theorem State.RegsInv.closeBlock {s : State} (h : s.RegsInv) : (closeBlock s).RegsInv :=
  { h with activePl := nofun, lineValid := nofun }

theorem State.RegsInv.recordLevel {s : State} (h : s.RegsInv) (ho : s.isOpen = true) (b : Level) :
    (recordLevel b s).RegsInv :=
  { h with lineValid := fun _ => ho }

theorem State.RegsInv.acceptClear {s : State} (h : s.RegsInv) : (acceptClear s).RegsInv :=
  { h with rep := Nat.zero_le 9, symIdx := Nat.zero_le 24, setcnt := Nat.zero_le 500 }

/-- One more cycle moves the prescaler on and counts a microsecond exactly when it was at 1 (60_exceptions.md R181). -/
theorem usTick_eq {c n : Nat} (hc : 1 ≤ c) :
    (if c - n % c = 1 then c else c - n % c - 1) = c - (n + 1) % c ∧
    (n + 1) / c = n / c + if c - n % c = 1 then 1 else 0 := by
  have hlt := Nat.mod_lt n hc
  have hmod : (n + 1) % c = (n % c + 1) % c := (Nat.mod_add_mod n c 1).symm
  by_cases hlast : n % c + 1 = c
  · rw [hlast, Nat.mod_self] at hmod
    have hone : c - n % c = 1 := by omega
    simp [hone, hmod, Nat.succ_div, Nat.dvd_iff_mod_eq_zero]
  · have hlt' : n % c + 1 < c := by omega
    rw [Nat.mod_eq_of_lt hlt'] at hmod
    have hone : c - n % c ≠ 1 := by omega
    have hdvd : ¬ c ∣ n + 1 := by rw [Nat.dvd_iff_mod_eq_zero]; omega
    rw [if_neg hone, if_neg hone, Nat.succ_div_of_not_dvd hdvd, hmod]
    omega

theorem State.Inv.clk_pos {s : State} (h : s.Inv) : 1 ≤ s.cfg.clkPerUs := by
  have hwf := h.cfgWf
  simp only [Config.wf, Bool.and_eq_true, decide_eq_true_eq] at hwf
  exact hwf.1

/-- Part 1 of a cycle keeps the invariant. -/
theorem State.Inv.ticked {s : State} (h : s.Inv) : s.ticked.Inv := by
  have ⟨hpre, hcount⟩ := usTick_eq (n := s.cyc) h.clk_pos
  refine { h with usPre := ?_, usCount := ?_ }
  · simp only [ticked_usPre, ticked_cfg, ticked_cyc, h.usPre, hpre]
  · simp only [ticked_usCount, ticked_cfg, ticked_cyc, h.usPre, h.usCount, hcount]
    split <;> simp [BitVec.ofNat_add]

/-! ### Part 2 keeps the invariant -/

theorem State.unitsFit.h_pos {s : State} (h : s.unitsFit) : 1 ≤ s.h.toNat := h.1

theorem State.unitsFit.l_pos {s : State} (h : s.unitsFit) : 1 ≤ s.l.toNat := h.2.1

theorem ratio_pos (y : Symbol) : 1 ≤ (ratio y).1.toNat ∧ 1 ≤ (ratio y).2.toNat := by
  cases y <;> decide

/-- A phase of at least one unit lasts at least one cycle (41_pulse.md R120). -/
theorem State.Inv.phase_pos {s : State} (h : s.Inv) (ho : s.isOpen = true) {units : BitVec 8} (hu : 1 ≤ units.toNat) :
    1 ≤ units.toNat * s.activePl.toNat * s.cfg.clkPerUs :=
  Nat.mul_pos (Nat.mul_pos hu (h.activePl ho).1) h.clk_pos

theorem State.Inv.noResult {s : State} (h : s.Inv) (hf : s.fsm ≠ .idle) : s.noResult := h.busy hf

/-- There are 250 symbols in a transmission (43_frame.md R151). -/
theorem State.RegsInv.symbolNumber_le {s : State} (h : s.RegsInv) : s.symbolNumber ≤ 249 := by
  have := h.rep
  have := h.symIdx
  unfold State.symbolNumber
  omega

theorem State.atStart.symbolNumber_eq {s : State} (h : s.atStart) : s.symbolNumber = 0 := by
  simp [State.symbolNumber, h.1, h.2.1]

/-- SETCNT does not wrap (10_state.md R40). -/
theorem State.RegsInv.setcnt_succ {s : State} (h : s.RegsInv) : (s.setcnt + 1#32).toNat = s.setcnt.toNat + 1 := by
  have := h.setcnt
  rw [BitVec.toNat_add, BitVec.toNat_ofNat]
  omega

/-- The symbol after one that is not the last (43_frame.md R154). -/
theorem nextSymbol_progress {s : State} (h : s.RegsInv) (hlast : ¬ (s.symIdx = 24#5 ∧ s.rep = 9#4)) :
    (nextSymbol s).rep.toNat ≤ 9 ∧ (nextSymbol s).symIdx.toNat ≤ 24 ∧
    (nextSymbol s).symbolNumber = s.symbolNumber + 1 := by
  have hrep := h.rep
  have hidx := h.symIdx
  simp only [State.symbolNumber, nextSymbol_rep, nextSymbol_symIdx]
  by_cases hi : s.symIdx = 24#5
  · have hr : s.rep ≠ 9#4 := fun hr => hlast ⟨hi, hr⟩
    simp only [hi, if_true]
    bv_omega
  · simp only [hi, if_false]
    bv_omega

theorem Fsm.timing_iff {f : Fsm} : f.timing = true ↔ f = .tHigh ∨ f = .tLow := by
  cases f <;> simp [Fsm.timing]

/-- A timed phase that goes on for at least one more cycle. -/
theorem fsmFits_countDown {s : State} (h : s.fsmFits) (hf : s.fsm.timing = true) (hrem : s.rem - 1 ≠ 0) :
    { s with rem := s.rem - 1 }.fsmFits := by
  have hle : s.rem - 1 ≤ s.rem := Nat.sub_le _ _
  rcases Fsm.timing_iff.mp hf with hf | hf <;> simp only [State.fsmFits, hf] at h ⊢ <;>
    obtain ⟨hp, hphase, hcnt, hv, hl, -, hmax⟩ := h <;>
    exact ⟨hp, hphase, hcnt, hv, hl, Nat.one_le_iff_ne_zero.mpr hrem, hle.trans hmax⟩

/-- An OK to OPEN (40_line.md R107). -/
theorem State.Inv.opened {s : State} (h : s.Inv) (hf : s.fsm = .wOpen) : (complete .ok { s with isOpen := true }).Inv := by
  have hfits := h.fsm
  simp only [State.fsmFits, hf] at hfits
  obtain ⟨-, -, -, hpl, -, -⟩ := hfits
  have hregs : { s with isOpen := true }.RegsInv :=
    { h.regs with activePl := fun _ => hpl, lineValid := fun _ => rfl }
  exact hregs.complete (h.noResult (by simp [hf])).2.2 (by decide)

/-- An OK to the LOOKUP of SET_LINE (40_line.md R106). -/
theorem State.Inv.foundForSet {s : State} (h : s.Inv) (hf : s.fsm = .wLookup) (hop : s.op = .setLine) :
    (issueSet s.v { s with fsm := .wSetV }).Inv := by
  have hfits := h.fsm
  simp only [State.fsmFits, hf] at hfits
  obtain ⟨-, ho, -, hcnt, hstart⟩ := hfits
  have hregs : (issueSet s.v { s with fsm := .wSetV }).RegsInv := { h.regs with setcnt := by simp [hcnt] }
  exact hregs.inv_of_noResult (h.noResult (by simp [hf])) ⟨hop, ho, by simp [hcnt], hstart⟩

/-- An OK to the LOOKUP of a command that sends pulses (40_line.md R106). -/
theorem State.Inv.foundForPulse {s : State} (h : s.Inv) (hf : s.fsm = .wLookup) (hop : s.op ≠ .setLine) :
    (startPulse s.h s.l s).Inv := by
  have hfits := h.fsm
  simp only [State.fsmFits, hf] at hfits
  obtain ⟨-, -, hp, hcnt, hstart⟩ := hfits
  have hregs : (startPulse s.h s.l s).RegsInv := { h.regs with setcnt := by simp [hcnt] }
  have hnum : (startPulse s.h s.l s).symbolNumber = 0 := hstart.symbolNumber_eq
  exact hregs.inv_of_noResult (h.noResult (by simp [hf])) ⟨hp.resolve_left hop, rfl, by simp [hnum, hcnt]⟩

/-- An OK to the SET of SET_LINE (40_line.md R109). -/
theorem State.Inv.lineSet {s : State} (h : s.Inv) (hf : s.fsm = .wSetV) : (complete .ok (recordLevel s.v s)).Inv := by
  have hfits := h.fsm
  simp only [State.fsmFits, hf] at hfits
  obtain ⟨-, ho, -, -⟩ := hfits
  exact (h.regs.recordLevel ho s.v).complete (h.noResult (by simp [hf])).2.2 (by decide)

/-- An OK to the SET(1) of a pulse starts its high phase (41_pulse.md R122). -/
theorem State.Inv.highSet {s : State} (h : s.Inv) (hf : s.fsm = .wSetH) :
    (startPhase s.h { recordLevel true s with fsm := .tHigh }).Inv := by
  have hfits := h.fsm
  simp only [State.fsmFits, hf] at hfits
  obtain ⟨hp, hphase, hcnt⟩ := hfits
  have ⟨ho, _, hu, _⟩ := hp
  have hregs : (startPhase s.h { recordLevel true s with fsm := .tHigh }).RegsInv :=
    { h.regs.recordLevel ho true with }
  exact hregs.inv_of_noResult (h.noResult (by simp [hf]))
    ⟨hp, hphase, hcnt, rfl, rfl, h.phase_pos ho hu.h_pos, Nat.le_refl _⟩

/-- An OK to the SET(0) of a pulse starts its low phase (41_pulse.md R122). -/
theorem State.Inv.lowSet {s : State} (h : s.Inv) (hf : s.fsm = .wSetL) :
    (startPhase s.l { recordLevel false s with fsm := .tLow }).Inv := by
  have hfits := h.fsm
  simp only [State.fsmFits, hf] at hfits
  obtain ⟨hp, hphase, hcnt, -, -⟩ := hfits
  have ⟨ho, _, hu, _⟩ := hp
  have hregs : (startPhase s.l { recordLevel false s with fsm := .tLow }).RegsInv :=
    { h.regs.recordLevel ho false with }
  exact hregs.inv_of_noResult (h.noResult (by simp [hf]))
    ⟨hp, hphase, hcnt, rfl, rfl, h.phase_pos ho hu.l_pos, Nat.le_refl _⟩

/-- The end of a high phase issues the pulse's SET(0) (41_pulse.md R122). -/
theorem State.Inv.highEnds {s : State} (h : s.Inv) (hf : s.fsm = .tHigh) :
    (issueSet false { s with rem := 0, phase := true, fsm := .wSetL }).Inv := by
  have hfits := h.fsm
  simp only [State.fsmFits, hf] at hfits
  obtain ⟨hp, -, hcnt, hv, hl, -, -⟩ := hfits
  have hnum := h.regs.symbolNumber_le
  have hsucc : (s.setcnt + 1#32).toNat = 2 * s.symbolNumber + 2 := by rw [h.regs.setcnt_succ, hcnt]
  have hregs : (issueSet false { s with rem := 0, phase := true, fsm := .wSetL }).RegsInv :=
    { h.regs with setcnt := by simp only [issueSet_setcnt, hsucc]; omega }
  exact hregs.inv_of_noResult (h.noResult (by simp [hf])) ⟨hp, rfl, hsucc, hv, hl⟩

/-- The end of a low phase of TRANSMIT that is not the last starts the next symbol's pulse (43_frame.md R154). -/
theorem State.Inv.nextPulse {s : State} (h : s.Inv) (hf : s.fsm = .tLow) (hop : s.op = .transmit)
    (hlast : ¬ (s.symIdx = 24#5 ∧ s.rep = 9#4)) : (startSymbol (nextSymbol { s with rem := 0 })).Inv := by
  have hfits := h.fsm
  simp only [State.fsmFits, hf] at hfits
  obtain ⟨⟨ho, hpulses, -, -⟩, -, hcnt, -, -, -, -⟩ := hfits
  have hregs : { s with rem := 0 }.RegsInv := { h.regs with }
  have ⟨hrep, hidx, hnum⟩ := nextSymbol_progress hregs hlast
  have hsucc : (s.setcnt + 1#32).toNat = 2 * (nextSymbol { s with rem := 0 }).symbolNumber + 1 := by
    rw [h.regs.setcnt_succ, hcnt, hnum]; rfl
  have hnum' : (nextSymbol { s with rem := 0 }).symbolNumber ≤ 249 := by unfold State.symbolNumber; omega
  have hregs' : (startSymbol (nextSymbol { s with rem := 0 })).RegsInv :=
    { h.regs with
      rep := hrep, symIdx := hidx, setcnt := by simp only [startSymbol_setcnt, nextSymbol_setcnt, hsucc]; omega }
  have hunits : (startSymbol (nextSymbol { s with rem := 0 })).unitsFit :=
    ⟨(ratio_pos _).1, (ratio_pos _).2, fun _ => ⟨_, rfl⟩, fun _ => rfl⟩
  exact hregs'.inv_of_noResult (h.noResult (by simp [hf]))
    ⟨⟨ho, hpulses, hunits, fun hne => absurd hop hne⟩, rfl, hsucc⟩

/-- Part 2 of a cycle keeps the invariant. -/
theorem SeqStep.inv {resp : Resp} {s t : State} (hst : SeqStep resp s t) (h : s.Inv) : t.Inv := by
  cases hst with
  | rests hf => exact h
  | waits hf hresp => exact h
  | counts hf hrem => exact { h with fsm := fsmFits_countDown h.fsm hf hrem }
  | opened hf hresp => exact h.opened hf
  | released hf hresp => exact h.regs.closeBlock.complete (h.noResult (by simp [hf])).2.2 (by decide)
  | releaseFails hf hresp => exact h.regs.closeBlock.lineFail fun _ => rfl
  | foundForSet hf hresp hop => exact h.foundForSet hf hop
  | foundForPulse hf hresp hop => exact h.foundForPulse hf hop
  | lineSet hf hresp => exact h.lineSet hf
  | highSet hf hresp => exact h.highSet hf
  | lowSet hf hresp => exact h.lowSet hf
  | fails kind level hf hresp hlevel => exact h.regs.lineFail hlevel
  | highEnds hf hrem => exact h.highEnds hf
  | ends hf hrem =>
    have hregs : { s with rem := 0 }.RegsInv := { h.regs with }
    exact hregs.complete (h.noResult (by simp [hf])).2.2 (by decide)
  | nextPulse hf hrem hop hlast => exact h.nextPulse hf hop hlast
  | stuck hf hrem hop =>
    have hfits := h.fsm
    simp only [State.fsmFits, hf] at hfits
    obtain ⟨⟨-, hpulses, -, -⟩, -⟩ := hfits
    exact absurd hpulses (by simp [hop])

/-! ### Part 3 keeps the invariant -/

/-- `1 <= s32(PULSE_LEN)` bounds PULSE_LEN as a number too (10_state.md R37, 40_line.md R107). -/
theorem pulseLenLegal_iff {w : Word} : pulseLenLegal w = true ↔ 1 ≤ w.toNat ∧ w.toNat ≤ 2 ^ 31 - 1 := by
  have := w.isLt
  rw [pulseLenLegal, decide_eq_true_iff, s32, BitVec.toInt_eq_toNat_cond]
  split <;> omega

/-- A command that starts sends pulses with the units it gives, or is SET_LINE (10_state.md R46). -/
theorem Starts.pulsing {i : Instr} {s t : State} (hs : Starts i s t.op t.v t.h t.l t.frame) (hop : t.op ≠ .setLine)
    (ho : t.isOpen = true) (hstart : t.atStart) : t.pulsing := by
  obtain ⟨hrep, hidx, -⟩ := hstart
  cases i with
  | openCmd => exact hs.elim
  | closeCmd => exact hs.elim
  | setLine u => exact absurd hs.1 hop
  | emitPulse x y =>
    obtain ⟨hop, -, hh, hl, -, hx, hy⟩ := hs
    have hpos : 1 ≤ t.h.toNat ∧ 1 ≤ t.l.toNat := by rw [hh, hl]; bv_omega
    exact ⟨ho, by simp [hop, OpKind.pulses], ⟨hpos.1, hpos.2, by simp [hop], by simp [hop]⟩, fun _ => ⟨hrep, hidx⟩⟩
  | emitSymbol sym =>
    obtain ⟨hop, -, -, y, -, hh, hl⟩ := hs
    have hpos := ratio_pos y
    rw [← hh, ← hl] at hpos
    exact ⟨ho, by simp [hop, OpKind.pulses], ⟨hpos.1, hpos.2, fun _ => ⟨y, by rw [hh, hl]⟩, by simp [hop]⟩,
      fun _ => ⟨hrep, hidx⟩⟩
  | transmit =>
    obtain ⟨hop, -, -, -, hh, hl⟩ := hs
    have hpos := ratio_pos (symAt t.frame 0)
    rw [← hh, ← hl] at hpos
    exact ⟨ho, by simp [hop, OpKind.pulses], ⟨hpos.1, hpos.2, by simp [hop], fun _ => by simp [hidx, hh, hl]⟩,
      fun _ => ⟨hrep, hidx⟩⟩

theorem acceptClear_atStart (s : State) : (acceptClear s).atStart := ⟨rfl, rfl, rfl⟩

theorem acceptClear_noResult (s : State) : (acceptClear s).noResult := ⟨rfl, rfl, rfl⟩

/-- The accept of a word keeps the invariant. -/
theorem AcceptStep.inv {cmd : Option Instr} {s t : State} (hst : AcceptStep cmd s t) (h : s.RegsInv) : t.Inv := by
  have hclear := h.acceptClear
  have hres := acceptClear_noResult s
  have hstart := acceptClear_atStart s
  cases hst with
  | ends r hr => exact hclear.complete rfl hr
  | openRequested hcmd hopen hpin hpl hb =>
    refine State.RegsInv.inv_of_noResult ?_ hres ⟨rfl, hb, hopen, pulseLenLegal_iff.mp hpl, rfl, hstart⟩
    exact { hclear with activePl := fun _ => pulseLenLegal_iff.mp hpl }
  | opened hcmd hopen hpin hpl =>
    refine State.RegsInv.complete ?_ rfl (by decide)
    exact { hclear with activePl := fun _ => pulseLenLegal_iff.mp hpl, lineValid := fun _ => rfl }
  | releaseRequested hcmd hopen hb =>
    refine State.RegsInv.inv_of_noResult ?_ hres ⟨rfl, hb, hopen, rfl, hstart⟩
    exact { hclear with }
  | closed hcmd hopen =>
    refine State.RegsInv.complete (State.RegsInv.closeBlock ?_) rfl (by decide)
    exact { hclear with }
  | lookupRequested i op v h l frame hcmd hopen hst hb =>
    refine State.RegsInv.inv_of_noResult ?_ hres ⟨hb, hopen, ?_, rfl, hstart⟩
    · exact { hclear with }
    · exact or_iff_not_imp_left.mpr fun hop => Starts.pulsing hst hop hopen hstart
  | setRequested i v h l frame hcmd hopen hst =>
    refine State.RegsInv.inv_of_noResult ?_ hres ⟨rfl, hopen, rfl, hstart⟩
    exact { hclear with setcnt := by simp }
  | pulseStarted i op v h l frame hcmd hopen hst hop =>
    refine State.RegsInv.inv_of_noResult ?_ hres ⟨Starts.pulsing hst hop hopen hstart, rfl, rfl⟩
    exact { hclear with setcnt := by simp }

theorem State.Inv.reject {s : State} (h : s.Inv) : (reject s).Inv := { h with }

theorem State.Inv.writeStatus {s : State} (h : s.Inv) (w : Word) : (writeStatus w s).Inv :=
  { h with
    busy := fun hf => by
      have ⟨hdone, herr, hinfo⟩ := h.busy hf
      exact ⟨by simp [hdone], herr, hinfo⟩ }

theorem State.Inv.storeReg {s : State} (h : s.Inv) (r : Reg) (w : Word) : (storeReg r w s).Inv := by
  cases r <;> exact { h with }

/-- The reset state meets the invariant in every block whose parameters lie in their domains (70_reset_and_hazards.md
R201). -/
theorem resetWith_inv {c : Config} (hc : c.wf = true) (ins : List CycleInput) : (State.resetWith c ins).Inv where
  cfgWf := hc
  usPre := by simp
  usCount := by simp
  rep := Nat.zero_le 9
  symIdx := Nat.zero_le 24
  activePl := nofun
  lineValid := nofun
  setcnt := Nat.zero_le 500
  busy hf := absurd rfl hf
  errLine := nofun
  errOther _ := rfl
  fsm := trivial

/-- Settles O39: a reset cycle gives the reset state; in any other cycle parts 1, 2 and 3 each keep the invariant. -/
theorem invariantKept : Obligations.InvariantKept := by
  intro s t h hstep
  by_cases hr : s.input.rst = true
  · obtain rfl := eq_resetCycle hstep hr
    exact { resetWith_inv h.cfgWf s.inputs.tail with }
  have hm : (s.beforeBus s.input.resp).Inv := (seqStep_beforeBus _ s).inv h.ticked
  rcases step_cases hstep (by simpa using hr) rfl with ⟨-, _, _, e⟩ | ⟨w, -, -, e⟩ | ⟨_, -, -, e⟩ | ⟨-, w, _, _, -, -, e⟩ |
    ⟨-, r, w, _, _, -, -, e⟩ <;> subst e
  · exact { hm with }
  · exact (acceptStep_acceptWord w _).inv hm.regs
  · exact hm.reject
  · exact hm.writeStatus w
  · exact hm.storeReg r w

end Sys2Proof.Machine

/-! ## What changes a register, and when -/

namespace Sys2Proof.Machine

/-- OPEN, CLOSE and TRANSMIT have one word each (30_encoding.md R83). -/
theorem eq_encode_of_commandOf {w : Word} {i : Instr} (h : commandOf w = some i)
    (hi : i = .openCmd ∨ i = .closeCmd ∨ i = .transmit) : w = encode i := by
  unfold commandOf at h
  split_ifs at h with hop hlo hop hlo hop hlo hop hlo hop hlo hop hlo <;> cases h
  · exact word_eq_of_fields hop hlo
  · exact word_eq_of_fields hop hlo
  · simp at hi
  · simp at hi
  · simp at hi
  · exact word_eq_of_fields hop hlo

theorem Fsm.waiting_of_timing {f : Fsm} (h : f.timing = true) : f.waiting = false := by
  rcases Fsm.timing_iff.mp h with rfl | rfl <;> rfl

/-- What a cycle with no reset leaves of the state after part 2 when it accepts no command. -/
theorem view_eq {m t : State} (h : t.commandView = m.commandView) :
    t.isOpen = m.isOpen ∧ t.lineValid = m.lineValid ∧ t.lineLevel = m.lineLevel ∧ t.frame = m.frame ∧
    t.activePl = m.activePl ∧ t.activeLine = m.activeLine ∧ t.setcnt = m.setcnt ∧ t.fsm = m.fsm ∧
    t.out.lreq = m.out.lreq ∧ t.out.completed = m.out.completed :=
  ⟨(congrArg State.isOpen h :), (congrArg State.lineValid h :), (congrArg State.lineLevel h :), (congrArg State.frame h :),
   (congrArg State.activePl h :), (congrArg State.activeLine h :), (congrArg State.setcnt h :), (congrArg State.fsm h :),
   (congrArg (·.out.lreq) h :), (congrArg (·.out.completed) h :)⟩

/-! ### Line requests -/

/-- Part 2 issues a request exactly when it comes to wait for the line anew (10_state.md R49). -/
theorem SeqStep.lreq_iff {resp : Resp} {s t : State} (hst : SeqStep resp s t) (hq : s.out.lreq = none) :
    t.out.lreq ≠ none ↔ t.fsm.waiting = true ∧ ¬ (s.fsm.waiting = true ∧ resp = .none) := by
  cases hst
  case waits hf hresp => simp [hq, hf, hresp]
  case counts hf hrem => simp [hq, Fsm.waiting_of_timing hf]
  all_goals simp [*, Fsm.waiting]

/-- An accept issues a request exactly when it comes to wait for the line. -/
theorem AcceptStep.lreq_iff {cmd : Option Instr} {s t : State} (hst : AcceptStep cmd s t) (hq : s.out.lreq = none) :
    t.out.lreq ≠ none ↔ t.fsm.waiting = true := by
  cases hst <;> simp [hq, Fsm.waiting]

/-- Before part 3 of a cycle a request stands exactly in a wait that began in part 2. -/
theorem beforeBus_lreq_iff (resp : Resp) (s : State) :
    (s.beforeBus resp).out.lreq ≠ none ↔
      (s.beforeBus resp).fsm.waiting = true ∧ ¬ (s.fsm.waiting = true ∧ resp = .none) :=
  (seqStep_beforeBus resp s).lreq_iff rfl

/-- An idle block has issued no request in part 2. -/
theorem beforeBus_lreq_of_idle {resp : Resp} {s : State} (hf : (s.beforeBus resp).fsm = .idle) :
    (s.beforeBus resp).out.lreq = none := by
  by_contra hq
  have := ((beforeBus_lreq_iff resp s).mp hq).1
  simp [hf, Fsm.waiting] at this

/-- A wait that is not answered goes on (40_line.md R101). -/
theorem beforeBus_fsm_of_unanswered {resp : Resp} {s : State} (hf : s.fsm.waiting = true) (hresp : resp = .none) :
    (s.beforeBus resp).fsm = s.fsm := by
  subst hresp
  simp [beforeBus_eq, sequencer, hf, onResponse]

/-- A reset cycle issues no request (70_reset_and_hazards.md R200). -/
theorem resetOutputs_lreq (c : Config) (bus : Option Access) : (resetOutputs c bus).lreq = none := by
  match bus with
  | none => rfl
  | some (.write _ _ _) => rfl
  | some (.read width addr) => simp only [resetOutputs]; split <;> rfl

/-- Settles O41: part 2 and the accept issue a request exactly when they come to wait, and an accept finds the sequencer
IDLE, so no unanswered wait was going on. -/
theorem oneRequestOutstanding : Obligations.OneRequestOutstanding := by
  intro s t hstep
  by_cases hr : s.input.rst = true
  · obtain rfl := eq_resetCycle hstep hr
    simp [resetCycle, Fsm.waiting, resetOutputs_lreq]
  have hr : s.input.rst = false := by simpa using hr
  rcases running_cases hstep hr with ⟨w, -, hf, hacc⟩ | ⟨-, hview⟩
  · have hanswered : ¬ (s.fsm.waiting = true ∧ s.input.resp = .none) := fun ⟨hw, hn⟩ => by
      rw [beforeBus_fsm_of_unanswered hw hn] at hf
      simp [hf, Fsm.waiting] at hw
    rw [hacc.lreq_iff (beforeBus_lreq_of_idle hf)]
    simp [hr, hanswered]
  · obtain ⟨-, -, -, -, -, -, -, hfsm, hlreq, -⟩ := view_eq hview
    rw [hlreq, hfsm, beforeBus_lreq_iff]
    simp [hr]

/-! ### SETCNT -/

/-- How many SET requests the outputs of a cycle hold, as SETCNT counts them (10_state.md R40). -/
def Outputs.setsIssued (o : Outputs) : Word :=
  if o.lreq = some (.setLine true) ∨ o.lreq = some (.setLine false) then 1#32 else 0#32

theorem Outputs.setsIssued_set {o : Outputs} {v : Level} (h : o.lreq = some (.setLine v)) : o.setsIssued = 1#32 := by
  cases v <;> simp [Outputs.setsIssued, h]

theorem Outputs.setsIssued_none {o : Outputs} (h : o.lreq = none) : o.setsIssued = 0#32 := by
  simp [Outputs.setsIssued, h]

theorem SeqStep.setcnt_eq {resp : Resp} {s t : State} (hst : SeqStep resp s t) (hq : s.out.lreq = none) :
    t.setcnt = s.setcnt + t.out.setsIssued := by
  have hkept : ∀ o : Outputs, o.lreq = none → s.setcnt = s.setcnt + o.setsIssued := fun o ho => by
    simp [Outputs.setsIssued_none ho]
  cases hst
  case foundForSet | foundForPulse | highEnds | nextPulse => rw [Outputs.setsIssued_set rfl]; rfl
  all_goals exact hkept _ hq

theorem AcceptStep.setcnt_eq {cmd : Option Instr} {s t : State} (hst : AcceptStep cmd s t) (hq : s.out.lreq = none) :
    t.setcnt = t.out.setsIssued := by
  cases hst
  case setRequested | pulseStarted => rw [Outputs.setsIssued_set rfl]; rfl
  case ends | opened | closed => exact (Outputs.setsIssued_none hq).symm
  case openRequested | releaseRequested | lookupRequested => simp [Outputs.setsIssued]

/-- Settles O50: part 2 counts the SET it issues, and an accept, which finds no SET issued, starts from 0. -/
theorem setcntCountsRequests : Obligations.SetcntCountsRequests := by
  intro s t hstep hr issued accepted
  change (¬ s.accepts → t.setcnt = s.setcnt + t.out.setsIssued) ∧ (s.accepts → t.setcnt = t.out.setsIssued)
  rcases running_cases hstep hr with ⟨w, hw, hf, hacc⟩ | ⟨hno, hview⟩
  · exact ⟨fun hno => absurd ⟨by simp [hw], hf⟩ hno, fun _ => hacc.setcnt_eq (beforeBus_lreq_of_idle hf)⟩
  · obtain ⟨-, -, -, -, -, -, hsetcnt, -, hlreq, -⟩ := view_eq hview
    refine ⟨fun _ => ?_, fun hyes => absurd hyes hno⟩
    have hm := (seqStep_beforeBus s.input.resp s).setcnt_eq rfl
    rw [hsetcnt, hm, Outputs.setsIssued, Outputs.setsIssued, hlreq, ticked_setcnt]

/-! ### OPEN -/

theorem AcceptStep.completed {cmd : Option Instr} {s t : State} (hst : AcceptStep cmd s t)
    (hc : s.out.completed = true) : t.out.completed = true := by
  cases hst <;> simp [hc]

theorem SeqStep.isOpen_rises {resp : Resp} {s t : State} (hst : SeqStep resp s t) (h0 : s.isOpen = false)
    (h1 : t.isOpen = true) : s.fsm = .wOpen ∧ resp = .ok ∧ t.out.completed = true := by
  cases hst
  case opened hf hresp => exact ⟨hf, hresp, rfl⟩
  all_goals simp [h0] at h1

theorem SeqStep.isOpen_falls {resp : Resp} {s t : State} (hst : SeqStep resp s t) (h1 : s.isOpen = true)
    (h0 : t.isOpen = false) : s.fsm = .wRelease ∧ resp ≠ .none ∧ t.out.completed = true := by
  cases hst
  case released hf hresp => exact ⟨hf, by simp [hresp], rfl⟩
  case releaseFails hf hresp => exact ⟨hf, by simp [hresp], rfl⟩
  all_goals simp [h1] at h0

theorem AcceptStep.isOpen_rises {cmd : Option Instr} {s t : State} (hst : AcceptStep cmd s t) (h0 : s.isOpen = false)
    (h1 : t.isOpen = true) : cmd = some .openCmd ∧ t.err = .ok ∧ t.done = true ∧ t.out.completed = true := by
  cases hst
  case opened hcmd _ _ _ => exact ⟨hcmd, rfl, rfl, rfl⟩
  all_goals simp [h0] at h1

theorem AcceptStep.isOpen_falls {cmd : Option Instr} {s t : State} (hst : AcceptStep cmd s t) (h1 : s.isOpen = true)
    (h0 : t.isOpen = false) : cmd = some .closeCmd ∧ t.err = .ok ∧ t.done = true ∧ t.out.completed = true := by
  cases hst
  case closed hcmd _ => exact ⟨hcmd, rfl, rfl, rfl⟩
  all_goals simp [h1] at h0

/-- Settles O43: OPEN moves in part 2 by the answer to OPEN or RELEASE, or in the accept of OPEN or CLOSE, each a
completion; an accept in the same cycle leaves `completed` standing. -/
theorem openChangesOnlyByOpenAndClose : Obligations.OpenChangesOnlyByOpenAndClose := by
  intro s t hstep
  by_cases hr : s.input.rst = true
  · obtain rfl := eq_resetCycle hstep hr
    exact ⟨fun _ h1 => absurd h1 (by simp [resetCycle]), fun _ _ => .inl hr⟩
  have hr : s.input.rst = false := by simpa using hr
  have hseq := seqStep_beforeBus s.input.resp s
  rcases running_cases hstep hr with ⟨w, hw, -, hacc⟩ | ⟨-, hview⟩
  · constructor <;> intro hs ht
    · refine ⟨hr, ?_⟩
      cases hm : (s.beforeBus s.input.resp).isOpen with
      | true =>
        obtain ⟨hf, hresp, hc⟩ := hseq.isOpen_rises hs hm
        exact ⟨hacc.completed hc, .inl ⟨hf, hresp⟩⟩
      | false =>
        obtain ⟨hcmd, herr, hdone, hc⟩ := hacc.isOpen_rises hm ht
        exact ⟨hc, .inr ⟨by rw [hw, eq_encode_of_commandOf hcmd (by simp)]; rfl, herr, hdone⟩⟩
    · refine .inr ?_
      cases hm : (s.beforeBus s.input.resp).isOpen with
      | false =>
        obtain ⟨hf, hresp, hc⟩ := hseq.isOpen_falls hs hm
        exact ⟨hacc.completed hc, .inl ⟨hf, hresp⟩⟩
      | true =>
        obtain ⟨hcmd, herr, hdone, hc⟩ := hacc.isOpen_falls hm ht
        exact ⟨hc, .inr ⟨by rw [hw, eq_encode_of_commandOf hcmd (by simp)]; rfl, herr, hdone⟩⟩
  · obtain ⟨hopen, -, -, -, -, -, -, -, -, hcompleted⟩ := view_eq hview
    rw [hopen, hcompleted]
    constructor <;> intro hs hm
    · obtain ⟨hf, hresp, hc⟩ := hseq.isOpen_rises hs hm
      exact ⟨hr, hc, .inl ⟨hf, hresp⟩⟩
    · obtain ⟨hf, hresp, hc⟩ := hseq.isOpen_falls hs hm
      exact .inr ⟨hc, .inl ⟨hf, hresp⟩⟩

/-! ### DONE and REJ -/

theorem SeqStep.done_rises {resp : Resp} {s t : State} (hst : SeqStep resp s t) (h0 : s.done = false)
    (h1 : t.done = true) : t.out.completed = true := by
  cases hst
  case opened | released | releaseFails | lineSet | fails | ends => rfl
  all_goals simp [h0] at h1

theorem SeqStep.done_stays {resp : Resp} {s t : State} (hst : SeqStep resp s t) (h : s.done = true) :
    t.done = true := by
  cases hst <;> simp [h]

theorem AcceptStep.done_rises {cmd : Option Instr} {s t : State} (hst : AcceptStep cmd s t) (h1 : t.done = true) :
    t.out.completed = true := by
  cases hst
  case ends | opened | closed => rfl
  all_goals simp at h1

/-- A W1C write clears DONE by bit 2 and nothing else (10_state.md R25). -/
theorem writeStatus_done_falls {w : Word} {s : State} (h1 : s.done = true) (h0 : (writeStatus w s).done = false) :
    w.getLsbD 2 = true := by
  by_contra hbit
  rw [writeStatus_done, Bool.eq_false_iff.mpr hbit] at h0
  simp [h1] at h0

theorem writeStatus_done_le {w : Word} {s : State} (h : (writeStatus w s).done = true) : s.done = true := by
  rw [writeStatus_done] at h
  split at h
  · cases h
  · exact h

/-- Settles O44: part 2 sets DONE only by `complete` and never clears it; of the accesses an accept starts it again and a
W1C write clears it. -/
theorem doneMeansCompleted : Obligations.DoneMeansCompleted := by
  intro s t hstep
  by_cases hr : s.input.rst = true
  · obtain rfl := eq_resetCycle hstep hr
    exact ⟨fun _ h1 => absurd h1 (by simp [resetCycle]), fun _ _ => .inl hr⟩
  have hseq := seqStep_beforeBus s.input.resp s
  have hrise := hseq.done_rises
  have hstay := hseq.done_stays
  rcases step_cases hstep (by simpa using hr) rfl with ⟨-, _, _, e⟩ | ⟨w, hw, hf, e⟩ | ⟨_, -, -, e⟩ |
    ⟨-, w, width, addr, hbus, htarget, e⟩ | ⟨-, r, w, _, _, -, -, e⟩ <;> subst e
  · exact ⟨hrise, fun hs ht => absurd ((hstay hs).symm.trans ht) nofun⟩
  · exact ⟨fun _ => (acceptStep_acceptWord w _).done_rises, fun _ _ => .inr (.inl ⟨by simp [hw], hf⟩)⟩
  · exact ⟨hrise, fun hs ht => absurd ((hstay hs).symm.trans ht) nofun⟩
  · exact ⟨fun hs ht => hrise hs (writeStatus_done_le ht),
      fun hs ht => .inr (.inr ⟨w, width, addr, hbus, htarget, writeStatus_done_falls (hstay hs) ht⟩)⟩
  · rw [storeReg_done, storeReg_out]
    exact ⟨hrise, fun hs ht => absurd ((hstay hs).symm.trans ht) nofun⟩

theorem AcceptStep.rej_eq {cmd : Option Instr} {s t : State} (hst : AcceptStep cmd s t) : t.rej = s.rej := by
  cases hst <;> rfl

/-- A W1C write clears REJ by bit 3 and nothing else (10_state.md R25). -/
theorem writeStatus_rej_falls {w : Word} {s : State} (h1 : s.rej = true) (h0 : (writeStatus w s).rej = false) :
    w.getLsbD 3 = true := by
  by_contra hbit
  rw [writeStatus_rej, Bool.eq_false_iff.mpr hbit] at h0
  simp [h1] at h0

/-- A flag that keeps its value neither rises nor falls. -/
theorem flag_unmoved {a b : Bool} (h : b = a) {p q : Prop} : (a = false → b = true → p) ∧ (a = true → b = false → q) := by
  subst h
  cases b <;> simp

/-- Settles O45: part 2 and every access but a rejected CMD write and a W1C write keep REJ. -/
theorem rejMeansRejected : Obligations.RejMeansRejected := by
  intro s t hstep
  by_cases hr : s.input.rst = true
  · obtain rfl := eq_resetCycle hstep hr
    exact ⟨fun hr' => by simp [hr] at hr', fun _ h1 => absurd h1 (by simp [resetCycle]), fun _ _ => .inl hr⟩
  have hm : (s.beforeBus s.input.resp).rej = s.rej := beforeBus_rej _ s
  rcases step_cases hstep (by simpa using hr) rfl with ⟨hw, _, _, e⟩ | ⟨w, hw, hf, e⟩ | ⟨_, hw, hf, e⟩ |
    ⟨hw, w, width, addr, hbus, htarget, e⟩ | ⟨hw, r, w, _, _, -, -, e⟩ <;> subst e
  · exact ⟨fun _ h => absurd hw h, flag_unmoved hm⟩
  · exact ⟨fun _ _ h => absurd hf h, flag_unmoved ((acceptStep_acceptWord w _).rej_eq.trans hm)⟩
  · exact ⟨fun _ _ _ => rfl, fun _ _ => ⟨by simp [hw], hf⟩, nofun⟩
  · refine ⟨fun _ h => absurd hw h, fun hs ht => ?_, fun hs ht => .inr ⟨w, width, addr, hbus, htarget, ?_⟩⟩
    · simp [hs] at ht
    · exact writeStatus_rej_falls (hm.trans hs) ht
  · exact ⟨fun _ h => absurd hw h, flag_unmoved ((storeReg_rej r w _).trans hm)⟩

/-! ### The line record -/

theorem SeqStep.lineRecord {resp : Resp} {s t : State} (hst : SeqStep resp s t)
    (hmove : t.lineLevel ≠ s.lineLevel ∨ (s.lineValid = false ∧ t.lineValid = true)) :
    resp = .ok ∧
    ((s.fsm = .wSetV ∧ t.lineLevel = s.v) ∨ (s.fsm = .wSetH ∧ t.lineLevel = true) ∨
     (s.fsm = .wSetL ∧ t.lineLevel = false)) := by
  cases hst
  case lineSet hf hresp => exact ⟨hresp, .inl ⟨hf, rfl⟩⟩
  case highSet hf hresp => exact ⟨hresp, .inr (.inl ⟨hf, rfl⟩)⟩
  case lowSet hf hresp => exact ⟨hresp, .inr (.inr ⟨hf, rfl⟩)⟩
  all_goals simp at hmove

theorem AcceptStep.lineLevel_eq {cmd : Option Instr} {s t : State} (hst : AcceptStep cmd s t) :
    t.lineLevel = s.lineLevel := by
  cases hst <;> rfl

theorem AcceptStep.lineValid_le {cmd : Option Instr} {s t : State} (hst : AcceptStep cmd s t)
    (h : t.lineValid = true) : s.lineValid = true := by
  cases hst
  case closed => cases h
  all_goals exact h

/-- Settles O46: only part 2 moves the record up, by the answer to a SET; an accept can only drop LINE_VALID. -/
theorem lineRecordFollowsOkSets : Obligations.LineRecordFollowsOkSets := by
  intro s t hstep hr hmove
  have hkept : t.lineLevel = (s.beforeBus s.input.resp).lineLevel ∧
      (t.lineValid = true → (s.beforeBus s.input.resp).lineValid = true) := by
    rcases running_cases hstep hr with ⟨w, -, -, hacc⟩ | ⟨-, hview⟩
    · exact ⟨hacc.lineLevel_eq, hacc.lineValid_le⟩
    · obtain ⟨-, hvalid, hlevel, -⟩ := view_eq hview
      exact ⟨hlevel, fun h => hvalid ▸ h⟩
  obtain ⟨hlevel, hvalid⟩ := hkept
  rw [hlevel] at hmove ⊢
  exact (seqStep_beforeBus s.input.resp s).lineRecord (hmove.imp_right fun ⟨h0, h1⟩ => ⟨h0, hvalid h1⟩)

/-! ### FRAME and the active copies -/

/-- TRANSMIT's range check bounds CODE as a number (43_frame.md R152). -/
theorem codeInRange_iff {w : Word} : codeInRange w = true ↔ w.toNat < 2 ^ 24 := by
  have := w.isLt
  rw [codeInRange, Bool.and_eq_true, decide_eq_true_iff, decide_eq_true_iff, s32, BitVec.toInt_eq_toNat_cond, frameBits]
  split <;> omega

/-- Only TRANSMIT starts with a new FRAME. -/
theorem Starts.frame_changes {i : Instr} {s : State} {op : OpKind} {v : Level} {h l : BitVec 8} {frame : BitVec 24}
    (hs : Starts i s op v h l frame) (hne : frame ≠ s.frame) :
    i = .transmit ∧ op = .transmit ∧ frame = s.code.extractLsb' 0 24 ∧ codeInRange s.code = true := by
  cases i
  case transmit =>
    obtain ⟨hop, -, hframe, hcode, -⟩ := hs
    exact ⟨rfl, hop, hframe, hcode⟩
  all_goals simp [Starts, hne] at hs

theorem AcceptStep.frame_changes {cmd : Option Instr} {s t : State} (hst : AcceptStep cmd s t)
    (hne : t.frame ≠ s.frame) :
    cmd = some .transmit ∧ t.op = .transmit ∧ t.isOpen = true ∧ t.frame = s.code.extractLsb' 0 24 ∧
    codeInRange s.code = true := by
  cases hst
  case lookupRequested i op v h l frame hcmd hopen hstart hb =>
    obtain ⟨rfl, hop, hframe, hcode⟩ := hstart.frame_changes hne
    exact ⟨hcmd, hop, hopen, hframe, hcode⟩
  case setRequested i v h l frame hcmd hopen hstart =>
    obtain ⟨-, hop, -⟩ := hstart.frame_changes hne
    cases hop
  case pulseStarted i op v h l frame hcmd hopen hstart hop =>
    obtain ⟨rfl, hop, hframe, hcode⟩ := hstart.frame_changes hne
    exact ⟨hcmd, hop, hopen, hframe, hcode⟩
  all_goals exact absurd rfl hne

/-- Settles O48: part 2 keeps FRAME, and of the accesses only the accept of TRANSMIT changes it. -/
theorem frameHoldsTheCode : Obligations.FrameHoldsTheCode := by
  intro s t hstep hr hne
  have hm : (s.beforeBus s.input.resp).frame = s.frame := beforeBus_frame _ s
  rcases running_cases hstep hr with ⟨w, hw, -, hacc⟩ | ⟨-, hview⟩
  · obtain ⟨hcmd, hop, hopen, hframe, hcode⟩ := hacc.frame_changes (hm.symm ▸ hne)
    rw [beforeBus_code] at hframe hcode
    have hlt := codeInRange_iff.mp hcode
    refine ⟨by rw [hw, eq_encode_of_commandOf hcmd (by simp)]; rfl, hop, hopen, ?_, hlt⟩
    apply BitVec.eq_of_toNat_eq
    simp only [State.readReg, hframe, BitVec.truncate_eq_setWidth, BitVec.toNat_setWidth, toNat_field]
    omega
  · obtain ⟨-, -, -, hframe, -⟩ := view_eq hview
    exact absurd (hframe.trans hm) hne

theorem AcceptStep.active_changes {cmd : Option Instr} {s t : State} (hst : AcceptStep cmd s t)
    (hne : t.activePl ≠ s.activePl ∨ t.activeLine ≠ s.activeLine) :
    cmd = some .openCmd ∧ t.op = .openCmd ∧ t.activePl = s.pulseLen ∧ t.activeLine = s.lineSel ∧
    pulseLenLegal s.pulseLen = true ∧ lineOffset s.lineSel ≠ noPin := by
  cases hst
  case openRequested hcmd hopen hpin hpl hb => exact ⟨hcmd, rfl, rfl, rfl, hpl, hpin⟩
  case opened hcmd hopen hpin hpl => exact ⟨hcmd, rfl, rfl, rfl, hpl, hpin⟩
  all_goals simp at hne

/-- OFFSET stands at the same bits of the LINE_SEL register as of its field (10_state.md R36). -/
theorem extractLsb'_zeroExtend_lineSel (x : BitVec 24) : (x.zeroExtend 32).extractLsb' 0 16 = lineOffset x := by
  apply BitVec.eq_of_toNat_eq
  have := x.isLt
  simp only [lineOffset, BitVec.truncate_eq_setWidth, toNat_field, BitVec.toNat_setWidth]
  omega

/-- Settles O49: part 2 keeps the active copies, and of the accesses only the accept of OPEN changes them. -/
theorem activeCopiesChangeOnlyByOpen : Obligations.ActiveCopiesChangeOnlyByOpen := by
  intro s t hstep hr hne
  have hpl : (s.beforeBus s.input.resp).activePl = s.activePl := beforeBus_activePl _ s
  have hline : (s.beforeBus s.input.resp).activeLine = s.activeLine := beforeBus_activeLine _ s
  rcases running_cases hstep hr with ⟨w, hw, -, hacc⟩ | ⟨-, hview⟩
  · rw [← hpl, ← hline] at hne
    obtain ⟨hcmd, hop, hpl', hline', hlegal, hpin⟩ := hacc.active_changes hne
    rw [beforeBus_pulseLen] at hpl' hlegal
    rw [beforeBus_lineSel] at hline' hpin
    refine ⟨by rw [hw, eq_encode_of_commandOf hcmd (by simp)]; rfl, hop, hpl', ?_, of_decide_eq_true hlegal, ?_⟩
    · simp only [State.readReg, hline']
    · rw [State.readReg, extractLsb'_zeroExtend_lineSel]
      exact hpin
  · obtain ⟨-, -, -, -, hpl', hline', -⟩ := view_eq hview
    exact absurd (hpl'.trans hpl) (hne.resolve_right (absurd (hline'.trans hline)))

/-! ### The frame of an accept -/

/-- Only SET_LINE starts with a new st.v. -/
theorem Starts.v_eq {i : Instr} {s : State} {op : OpKind} {v : Level} {h l : BitVec 8} {frame : BitVec 24}
    (hs : Starts i s op v h l frame) (hi : ∀ u, i ≠ .setLine u) : v = s.v := by
  cases i with
  | openCmd => exact hs.elim
  | closeCmd => exact hs.elim
  | setLine u => exact absurd rfl (hi u)
  | emitPulse x y => exact hs.2.1
  | emitSymbol sym => exact hs.2.1
  | transmit => exact hs.2.1

theorem AcceptStep.v_eq {i : Instr} {s t : State} (hst : AcceptStep (some i) s t) (hi : ∀ u, i ≠ .setLine u) :
    t.v = s.v := by
  cases hst
  case lookupRequested hcmd hopen hstart hb => exact hstart.v_eq (Option.some.inj hcmd ▸ hi)
  case setRequested hcmd hopen hstart => exact hstart.v_eq (Option.some.inj hcmd ▸ hi)
  case pulseStarted hcmd hopen hstart hop => exact hstart.v_eq (Option.some.inj hcmd ▸ hi)
  all_goals rfl

theorem AcceptStep.isOpen_eq {i : Instr} {s t : State} (hst : AcceptStep (some i) s t) (ho : i ≠ .openCmd)
    (hc : i ≠ .closeCmd) : t.isOpen = s.isOpen := by
  cases hst
  case opened hcmd _ _ _ => exact absurd (Option.some.inj hcmd) ho
  case closed hcmd _ => exact absurd (Option.some.inj hcmd) hc
  all_goals rfl

theorem AcceptStep.lineValid_eq {i : Instr} {s t : State} (hst : AcceptStep (some i) s t) (hc : i ≠ .closeCmd) :
    t.lineValid = s.lineValid := by
  cases hst
  case closed hcmd _ => exact absurd (Option.some.inj hcmd) hc
  all_goals rfl

theorem AcceptStep.active_eq {i : Instr} {s t : State} (hst : AcceptStep (some i) s t) (hi : i ≠ .openCmd) :
    t.activePl = s.activePl ∧ t.activeLine = s.activeLine := by
  by_contra hne
  obtain ⟨hcmd, -⟩ := hst.active_changes (not_and_or.mp hne)
  exact hi (Option.some.inj hcmd)

theorem AcceptStep.frame_eq {i : Instr} {s t : State} (hst : AcceptStep (some i) s t) (hi : i ≠ .transmit) :
    t.frame = s.frame := by
  by_contra hne
  obtain ⟨hcmd, -⟩ := hst.frame_changes hne
  exact hi (Option.some.inj hcmd)

/-- Settles O28: `acceptCommand_keeps` for what no command changes, and the case lemmas of `AcceptStep` for what one or
two commands change. -/
theorem acceptFrame : Obligations.AcceptFrame := by
  intro i s t hexec
  rw [exec_eq_next, Host.Outcome.next.injEq] at hexec
  have hst : AcceptStep (some i) s t := hexec ▸ acceptStep_acceptCommand i s
  have hkeep := acceptCommand_keeps i s
  rw [hexec] at hkeep
  obtain ⟨hcfg, hie, hrej, hlevel, hcode, hpl, hsel, hus, hrem, hpre, -, -⟩ := hkeep
  refine ⟨fun r hr => ?_, fun hi => ?_, fun hi => ?_, hst.isOpen_eq, hst.lineValid_eq, hrej, hlevel, hrem, hpre, hcfg,
    fun h1 h0 => hst.v_eq fun u => by cases u <;> assumption⟩
  · cases r
    case status | activePl | activeLine | frame | setcnt | errInfo => simp at hr
    all_goals simp only [State.readReg, ctrlWord, hcfg, hie, hcode, hpl, hsel, hus]
  · simp only [State.readReg, hst.active_eq hi, and_self]
  · simp only [State.readReg, hst.frame_eq hi]

end Sys2Proof.Machine

/-! ## The microsecond counter drives nothing -/

namespace Sys2Proof.Machine

/-- The state with another microsecond counter, prescaler and cycle number. -/
def State.withClock (u : Word) (p k : Nat) (s : State) : State := { s with usCount := u, usPre := p, cyc := k }

section
variable (u : Word) (p k : Nat) (s : State)

@[simp] theorem withClock_cfg : (s.withClock u p k).cfg = s.cfg := rfl
@[simp] theorem withClock_isOpen : (s.withClock u p k).isOpen = s.isOpen := rfl
@[simp] theorem withClock_code : (s.withClock u p k).code = s.code := rfl
@[simp] theorem withClock_pulseLen : (s.withClock u p k).pulseLen = s.pulseLen := rfl
@[simp] theorem withClock_lineSel : (s.withClock u p k).lineSel = s.lineSel := rfl
@[simp] theorem withClock_fsm : (s.withClock u p k).fsm = s.fsm := rfl
@[simp] theorem withClock_op : (s.withClock u p k).op = s.op := rfl
@[simp] theorem withClock_symIdx : (s.withClock u p k).symIdx = s.symIdx := rfl
@[simp] theorem withClock_rep : (s.withClock u p k).rep = s.rep := rfl
@[simp] theorem withClock_rem : (s.withClock u p k).rem = s.rem := rfl

/-! ### Part 2 does not read the clock -/

/-- The clock goes through a case distinction. -/
theorem ite_withClock {c : Prop} [Decidable c] (a b : State) :
    (if c then a else b).withClock u p k = if c then a.withClock u p k else b.withClock u p k :=
  apply_ite (State.withClock u p k) c a b

theorem firstAction_withClock (op : OpKind) : firstAction op (s.withClock u p k) = (firstAction op s).withClock u p k := by
  unfold firstAction
  split <;> rfl

theorem advance_withClock : advance (s.withClock u p k) = (advance s).withClock u p k := by
  unfold advance
  rw [ite_withClock]
  rfl

theorem pulseDone_withClock : pulseDone (s.withClock u p k) = (pulseDone s).withClock u p k := by
  unfold pulseDone
  simp only [withClock_op, advance_withClock]
  cases s.op <;> rfl

theorem onExpire_withClock : onExpire (s.withClock u p k) = (onExpire s).withClock u p k := by
  unfold onExpire
  simp only [withClock_fsm, pulseDone_withClock]
  split <;> rfl

theorem countDown_withClock : countDown (s.withClock u p k) = (countDown s).withClock u p k := by
  change (if s.rem - 1 = 0 then onExpire ({ s with rem := s.rem - 1 }.withClock u p k)
    else { s with rem := s.rem - 1 }.withClock u p k) = _
  rw [onExpire_withClock]
  unfold countDown
  dsimp only
  split_ifs <;> rfl

theorem onOk_withClock : onOk (s.withClock u p k) = (onOk s).withClock u p k := by
  unfold onOk
  simp only [withClock_fsm, withClock_op, firstAction_withClock]
  cases s.fsm <;> rfl

theorem onErr_withClock : onErr (s.withClock u p k) = (onErr s).withClock u p k := by
  unfold onErr
  simp only [withClock_fsm]
  cases s.fsm <;> rfl

theorem sequencer_withClock (resp : Resp) :
    sequencer resp (s.withClock u p k) = (sequencer resp s).withClock u p k := by
  have hresp : onResponse resp (s.withClock u p k) = (onResponse resp s).withClock u p k := by
    cases resp
    · rfl
    · exact onOk_withClock u p k s
    · exact onErr_withClock u p k s
  unfold sequencer
  simp only [withClock_fsm, hresp, countDown_withClock]
  split_ifs <;> rfl

/-! ### Part 3 does not read the clock -/

theorem beginCommand_withClock (op : OpKind) :
    beginCommand op (s.withClock u p k) = (beginCommand op s).withClock u p k := by
  have h := firstAction_withClock u p k { s with op := op } op
  unfold beginCommand
  simp only [withClock_cfg]
  cases s.cfg.backend
  · exact h
  · rfl

theorem acceptClear_withClock : acceptClear (s.withClock u p k) = (acceptClear s).withClock u p k := rfl

/-- The checks of a command read no clock, and it starts with the clock as it finds it. -/
theorem acceptCommand_withClock (i : Instr) :
    acceptCommand i (s.withClock u p k) = (acceptCommand i s).withClock u p k := by
  have hbegin (op : OpKind) (a : State) : (beginCommand op a).withClock u p k = beginCommand op (a.withClock u p k) :=
    (beginCommand_withClock u p k a op).symm
  simp only [acceptCommand, acceptClear_withClock]
  generalize acceptClear s = s
  cases i with
  | openCmd =>
    simp only [openAccept, ite_withClock u p k, withClock_cfg]
    cases s.cfg.backend <;> rfl
  | closeCmd =>
    simp only [closeAccept, ite_withClock u p k, withClock_cfg]
    cases s.cfg.backend <;> rfl
  | setLine v =>
    simp only [setLineAccept, ite_withClock u p k, hbegin]
    rfl
  | emitPulse h l =>
    simp only [emitPulseAccept, ite_withClock u p k, hbegin]
    rfl
  | emitSymbol sym =>
    simp only [emitSymbolAccept]
    cases symbolOf sym with
    | none => rfl
    | some y =>
      simp only [ite_withClock u p k, hbegin]
      rfl
  | transmit =>
    simp only [transmitAccept, ite_withClock u p k, hbegin]
    rfl

theorem acceptWord_withClock (w : Word) : acceptWord w (s.withClock u p k) = (acceptWord w s).withClock u p k := by
  unfold acceptWord
  cases commandOf w with
  | none => rfl
  | some i => exact acceptCommand_withClock u p k s i

theorem writeState_withClock (r : Reg) (w : Word) :
    writeState r w (s.withClock u p k) = (writeState r w s).withClock u p k := by
  cases r
  case cmd =>
    simp only [writeState, withClock_fsm, acceptWord_withClock]
    split <;> rfl
  all_goals rfl

theorem busState_withClock (pre : State) (bus : Option Access) :
    busState pre bus (s.withClock u p k) = (busState pre bus s).withClock u p k := by
  match bus with
  | none => rfl
  | some (.read width addr) =>
    simp only [busState, withClock_cfg]
    cases target s.cfg width addr <;> rfl
  | some (.write width addr w) =>
    simp only [busState, withClock_cfg, writeState_withClock]
    cases target s.cfg width addr <;> rfl

end

theorem beforeBus_withClock (u : Word) (p k : Nat) (s : State) (resp : Resp) :
    ∃ u' p' k', (s.withClock u p k).beforeBus resp = (s.beforeBus resp).withClock u' p' k' :=
  ⟨_, _, _, sequencer_withClock (s.withClock u p k).ticked.usCount (s.withClock u p k).ticked.usPre
    (s.withClock u p k).ticked.cyc s.ticked resp⟩

/-- A register other than US_COUNT reads the same whatever the clock is. -/
theorem readReg_withClock (u : Word) (p k : Nat) (s : State) {r : Reg} (hr : r ≠ .usCount) :
    (s.withClock u p k).readReg r = s.readReg r := by
  cases r
  case usCount => exact absurd rfl hr
  all_goals rfl

/-- Of the clock at the start of the cycle, part 3 sees only what a read of US_COUNT returns. -/
theorem busState_withClock_pre (u : Word) (p k : Nat) (pre : State) (bus : Option Access) (s : State) : ∃ d,
    busState (pre.withClock u p k) bus s =
      { busState pre bus s with out := { (busState pre bus s).out with rdata := d } } ∧
    (regRead s.cfg bus ≠ some .usCount → (busState pre bus s).out.rdata = d) := by
  cases hread : regRead s.cfg bus with
  | none =>
    rw [busState_of_no_regRead (pre.withClock u p k) pre hread]
    exact ⟨_, rfl, fun _ => rfl⟩
  | some r =>
    rw [busState_of_regRead _ hread, busState_of_regRead _ hread]
    exact ⟨_, rfl, fun hne => congrArg some (readReg_withClock u p k pre fun h => hne (congrArg some h)).symm⟩

/-- A cycle that starts with another clock ends in the same state but for the clock, and but for the read data when it
reads US_COUNT. -/
theorem after_withClock (s : State) (u : Word) (p k : Nat) : ∃ u' p' k' d,
    (s.withClock u p k).after = { s.after.withClock u' p' k' with out := { s.after.out with rdata := d } } ∧
    (regRead s.cfg s.input.bus ≠ some .usCount → s.after.out.rdata = d) := by
  by_cases hr : s.input.rst = true
  · have hr' : (s.withClock u p k).input.rst = true := hr
    rw [after_of_reset hr, after_of_reset hr']
    exact ⟨_, _, _, _, rfl, fun _ => rfl⟩
  have hr : s.input.rst = false := by simpa using hr
  obtain ⟨u', p', k', hm⟩ := beforeBus_withClock u p k s s.input.resp
  let pre : State := { s with inputs := s.inputs.tail }
  have hafter : s.after = busState pre s.input.bus (s.beforeBus s.input.resp) := after_of_running hr
  have hafter' : (s.withClock u p k).after =
      busState (pre.withClock u p k) s.input.bus ((s.beforeBus s.input.resp).withClock u' p' k') :=
    hm ▸ after_of_running (s := s.withClock u p k) hr
  obtain ⟨d, hbus, hread⟩ := busState_withClock_pre u p k pre s.input.bus ((s.beforeBus s.input.resp).withClock u' p' k')
  rw [busState_withClock u' p' k' _ pre, ← hafter] at hbus hread
  rw [withClock_cfg, beforeBus_cfg] at hread
  exact ⟨u', p', k', d, hafter'.trans hbus, hread⟩

/-- Settles O53: each part of a cycle goes through a change of the clock, but for a read of US_COUNT. -/
theorem usCountDrivesNothing : Obligations.UsCountDrivesNothing := by
  intro s t t' n p k hstep hstep'
  obtain ⟨u', p', k', d, hafter, hread⟩ := after_withClock s (BitVec.ofNat 32 n) p k
  rw [step_next_iff] at hstep
  have ht' : (s.withClock (BitVec.ofNat 32 n) p k).after = t' := step_next_iff.mp hstep'
  rw [hstep] at hafter hread
  rw [← ht', hafter]
  exact ⟨rfl, hread⟩

end Sys2Proof.Machine

/-! ## The layout of the registers -/

namespace Sys2Proof.Machine

/-- A stored CTRL reads back bit 0 of the word (10_state.md R24). -/
theorem bit0_word (w : Word) : 0#31 ++ BitVec.ofBool (w.getLsbD 0) = w &&& 1#32 := by
  rw [BitVec.and_one_eq_setWidth_ofBool_getLsbD]
  exact (BitVec.setWidth_eq_append (by decide)).symm

/-- A stored LINE_SEL reads back bits 23:0 of the word (10_state.md R36). -/
theorem low24_word (w : Word) : (w.extractLsb' 0 24).zeroExtend 32 = w &&& 0x00FFFFFF#32 := by
  apply BitVec.eq_of_toNat_eq
  have hmask : (w &&& 0x00FFFFFF#32).toNat = w.toNat % 2 ^ 24 := Nat.and_two_pow_sub_one_eq_mod w.toNat 24
  simp only [hmask, BitVec.truncate_eq_setWidth, BitVec.toNat_setWidth, toNat_field]
  omega

/-- Settles O16: the write stores by `storeReg` on the state after part 2, in any sequencer state. -/
theorem operandRegistersStore : Obligations.OperandRegistersStore := by
  intro s resp w m
  exact ⟨⟨_, step_write s resp .ctrl w, rfl, bit0_word w⟩, ⟨_, step_write s resp .code w, rfl, rfl⟩,
    ⟨_, step_write s resp .pulseLen w, rfl, rfl⟩, ⟨_, step_write s resp .lineSel w, rfl, low24_word w⟩⟩

/-- The fields of STATUS of more than one bit (10_state.md R25). -/
theorem statusWord_fields (s : State) :
    (statusWord s).extractLsb' 4 4 = s.err.code ∧ (statusWord s).extractLsb' 11 5 = 0#5 ∧
    (statusWord s).extractLsb' 16 5 = s.symIdx ∧ (statusWord s).extractLsb' 21 3 = 0#3 ∧
    (statusWord s).extractLsb' 24 4 = s.rep ∧ (statusWord s).extractLsb' 28 4 = 0#4 := by
  unfold statusWord
  refine ⟨?_, ?_, ?_, ?_, ?_, ?_⟩ <;>
    simp (disch := decide) only [BitVec.extractLsb'_append_eq_of_add_le, BitVec.extractLsb'_append_eq_of_le] <;>
    exact BitVec.extractLsb'_eq_self

/-- The fields of STATUS of one bit (10_state.md R25). -/
theorem statusWord_bits (s : State) :
    (statusWord s).getLsbD 0 = s.busy ∧ (statusWord s).getLsbD 1 = s.isOpen ∧ (statusWord s).getLsbD 2 = s.done ∧
    (statusWord s).getLsbD 3 = s.rej ∧ (statusWord s).getLsbD 8 = s.phase ∧ (statusWord s).getLsbD 9 = s.lineValid ∧
    (statusWord s).getLsbD 10 = s.lineLevel := by
  unfold statusWord
  simp only [BitVec.getLsbD_append]
  simp

/-- Settles O19, bit fields and wider fields apart; BUSY is `State.busy`. -/
theorem statusLayout : Obligations.StatusLayout := by
  intro s w
  obtain ⟨hbusy, hopen, hdone, hrej, hphase, hvalid, hlevel⟩ := statusWord_bits s
  obtain ⟨herr, hres0, hidx, hres1, hrep, hres2⟩ := statusWord_fields s
  have hbusy' : (statusWord s).getLsbD 0 = true ↔ s.fsm ≠ .idle := by rw [hbusy, State.busy, decide_eq_true_iff]
  exact ⟨hbusy', hopen, hdone, hrej, herr, hphase, hvalid, hlevel, hres0, hidx, hres1, hrep, hres2⟩

/-- Settles O20: ID depends on the parameters alone, which no step changes. -/
theorem idIsConstant : Obligations.IdIsConstant := by
  intro s t hstep
  have hcfg : t.cfg = s.cfg := step_next_iff.mp hstep ▸ (after_keeps s).1
  refine ⟨by simp only [State.readReg, hcfg], ?_⟩
  simp only [State.readReg, idWord]
  cases s.cfg.backend <;> decide

/-- DEV and OFFSET make up LINE_SEL (10_state.md R36). -/
theorem lineDev_append_lineOffset (line : BitVec 24) : lineDev line ++ lineOffset line = line := by
  apply BitVec.eq_of_toNat_eq
  have := line.isLt
  rw [toNat_append_eq, lineDev, lineOffset, toNat_field, toNat_field]
  omega

/-- Settles O21: the line word and each field stand whole between their neighbours. -/
theorem errInfoLayout : Obligations.ErrInfoLayout := by
  intro kind level line w
  have hlevel : w.getLsbD 27 = level := by
    simp only [w, errInfoWord, BitVec.getLsbD_append]
    simp
  simp only [w, errInfoWord, lineDev_append_lineOffset] at hlevel ⊢
  refine ⟨?_, hlevel, ?_, ?_⟩ <;>
    simp (disch := decide) only [BitVec.extractLsb'_append_eq_of_add_le, BitVec.extractLsb'_append_eq_of_le]
  · exact BitVec.extractLsb'_eq_self
  · exact BitVec.extractLsb'_eq_self
  · cases kind <;> rfl

end Sys2Proof.Machine

/-! ## The operand registers disturb nothing -/

namespace Sys2Proof.Machine

/-- Of the state at the start of the cycle, part 3 sees only what a read returns (20_memory.md R69). -/
theorem busState_of_pre (pre pre' : State) (bus : Option Access) (s : State) : ∃ d,
    busState pre' bus s = { busState pre bus s with out := { (busState pre bus s).out with rdata := d } } ∧
    ((∀ r, regRead s.cfg bus = some r → pre'.readReg r = pre.readReg r) → (busState pre bus s).out.rdata = d) := by
  cases hread : regRead s.cfg bus with
  | none =>
    rw [busState_of_no_regRead pre' pre hread]
    exact ⟨_, rfl, fun _ => rfl⟩
  | some r =>
    rw [busState_of_regRead _ hread, busState_of_regRead _ hread]
    exact ⟨_, rfl, fun heq => congrArg some (heq r rfl).symm⟩

/-- The state with other values in the operand registers CODE, PULSE_LEN and LINE_SEL. -/
def State.withOperands (c p : Word) (x : BitVec 24) (s : State) : State :=
  { s with code := c, pulseLen := p, lineSel := x }

section
variable (c p : Word) (x : BitVec 24) (s : State)

@[simp] theorem withOperands_cfg : (s.withOperands c p x).cfg = s.cfg := rfl
@[simp] theorem withOperands_fsm : (s.withOperands c p x).fsm = s.fsm := rfl
@[simp] theorem withOperands_op : (s.withOperands c p x).op = s.op := rfl

/-- The end of a phase reads no operand register: the next symbol is FRAME's (43_frame.md R154). -/
theorem onExpire_withOperands : onExpire (s.withOperands c p x) = (onExpire s).withOperands c p x := by
  have hadvance : advance (s.withOperands c p x) = (advance s).withOperands c p x := by
    rw [advance, advance, apply_ite (State.withOperands c p x)]
    rfl
  simp only [onExpire, pulseDone, withOperands_fsm, withOperands_op, hadvance, apply_ite (State.withOperands c p x)]
  cases s.op <;> rfl

/-- A line response reads no operand register: the line is ACTIVE_LINE, the units st.h and st.l (40_line.md R106 to R109,
41_pulse.md R122). -/
theorem onResponse_withOperands (resp : Resp) :
    onResponse resp (s.withOperands c p x) = (onResponse resp s).withOperands c p x := by
  have hfirst : firstAction s.op (s.withOperands c p x) = (firstAction s.op s).withOperands c p x := by
    rw [firstAction, firstAction, apply_ite (State.withOperands c p x)]
    rfl
  cases resp
  case none => rfl
  all_goals
    simp only [onResponse, onOk, onErr, withOperands_fsm, withOperands_op, hfirst]
    cases s.fsm <;> rfl

/-- Part 2 of a cycle reads no operand register (20_memory.md R74). -/
theorem sequencer_withOperands (resp : Resp) :
    sequencer resp (s.withOperands c p x) = (sequencer resp s).withOperands c p x := by
  have hcount : countDown (s.withOperands c p x) = (countDown s).withOperands c p x := by
    simp only [countDown, apply_ite (State.withOperands c p x), ← onExpire_withOperands]
    rfl
  simp only [sequencer, withOperands_fsm, onResponse_withOperands, hcount, apply_ite (State.withOperands c p x)]

theorem beforeBus_withOperands (resp : Resp) :
    (s.withOperands c p x).beforeBus resp = (s.beforeBus resp).withOperands c p x :=
  sequencer_withOperands c p x s.ticked resp

/-- A write that is no accept reads no operand register; a store to one makes the two states alike in it. -/
theorem writeState_withOperands {r : Reg} (w : Word) (hno : r = .cmd → s.fsm ≠ .idle) :
    ∃ c' p' x', writeState r w (s.withOperands c p x) = (writeState r w s).withOperands c' p' x' := by
  cases r
  case cmd =>
    have hreject (a : State) (ha : a.fsm ≠ .idle) : writeState .cmd w a = reject a := if_neg ha
    exact ⟨c, p, x, by rw [hreject s (hno rfl), hreject (s.withOperands c p x) (hno rfl)]; rfl⟩
  all_goals exact ⟨_, _, _, rfl⟩

/-- Part 3 reads an operand register only to accept a command (70_reset_and_hazards.md R205, R206). -/
theorem busState_withOperands (pre : State) (bus : Option Access)
    (hno : ¬ (cmdWritten s.cfg bus ≠ none ∧ s.fsm = .idle)) :
    ∃ c' p' x', busState pre bus (s.withOperands c p x) = (busState pre bus s).withOperands c' p' x' := by
  match bus with
  | none => exact ⟨c, p, x, rfl⟩
  | some (.read width addr) =>
    refine ⟨c, p, x, ?_⟩
    simp only [busState, withOperands_cfg]
    cases target s.cfg width addr <;> rfl
  | some (.write width addr w) =>
    simp only [busState, withOperands_cfg]
    cases htarget : target s.cfg width addr with
    | outside | bad => exact ⟨c, p, x, rfl⟩
    | reg r => exact writeState_withOperands c p x s w fun hr hf => hno ⟨by simp [cmdWritten, htarget, hr], hf⟩

/-- A register other than CODE, PULSE_LEN and LINE_SEL reads the same whatever those three hold. -/
theorem readReg_withOperands {r : Reg} (hr : r ∉ [Reg.code, Reg.pulseLen, Reg.lineSel]) :
    (s.withOperands c p x).readReg r = s.readReg r := by
  cases r
  case code | pulseLen | lineSel => simp at hr
  all_goals rfl

/-- A cycle that accepts no command and starts with other operand registers ends in the same state but for those, and but
for the read data when it reads one of them. -/
theorem after_withOperands (hno : ¬ s.accepts) : ∃ c' p' x' d,
    (s.withOperands c p x).after = { s.after.withOperands c' p' x' with out := { s.after.out with rdata := d } } ∧
    (regRead s.cfg s.input.bus ∉ [some Reg.code, some Reg.pulseLen, some Reg.lineSel] → s.after.out.rdata = d) := by
  by_cases hr : s.input.rst = true
  · have hr' : (s.withOperands c p x).input.rst = true := hr
    rw [after_of_reset hr, after_of_reset hr']
    exact ⟨_, _, _, _, rfl, fun _ => rfl⟩
  have hr : s.input.rst = false := by simpa using hr
  let pre : State := { s with inputs := s.inputs.tail }
  let m : State := s.beforeBus s.input.resp
  have hafter : s.after = busState pre s.input.bus m := after_of_running hr
  have hafter' : (s.withOperands c p x).after =
      busState (pre.withOperands c p x) s.input.bus (m.withOperands c p x) :=
    beforeBus_withOperands c p x s s.input.resp ▸ after_of_running (s := s.withOperands c p x) hr
  obtain ⟨d, hpre, hread⟩ := busState_of_pre pre (pre.withOperands c p x) s.input.bus (m.withOperands c p x)
  obtain ⟨c', p', x', hbus⟩ := busState_withOperands c p x m pre s.input.bus (by simpa [m, State.accepts] using hno)
  rw [hbus, ← hafter] at hpre hread
  rw [withOperands_cfg, beforeBus_cfg] at hread
  refine ⟨c', p', x', d, hafter'.trans hpre, fun hother => hread fun r hr => readReg_withOperands c p x pre ?_⟩
  simpa [hr] using hother

end

/-- Settles O52: each part of a cycle that accepts no command goes through a change of the operand registers, but for a
read of one of them. -/
theorem operandRegistersDoNotDisturb : Obligations.OperandRegistersDoNotDisturb := by
  intro s t t' c p x hstep hstep' hno
  obtain ⟨c', p', x', d, hafter, hread⟩ := after_withOperands c p x s hno
  rw [step_next_iff] at hstep
  have ht' : (s.withOperands c p x).after = t' := step_next_iff.mp hstep'
  rw [hstep] at hafter hread
  rw [← ht', hafter]
  exact ⟨rfl, hread⟩

end Sys2Proof.Machine

/-! ## The register window -/

namespace Sys2Proof.Machine

/-- The window has sixteen word addresses (10_state.md R22). -/
theorem regAtIndex_eq_none_iff {n : Nat} : regAtIndex n = none ↔ 16 ≤ n := by
  unfold regAtIndex
  split
  case h_17 => grind
  all_goals simp

/-- The address of the first byte decides whether an access reaches the block (20_memory.md R60; log entry 6). -/
theorem target_eq_outside_iff {c : Config} {width : Width} {addr : Nat} :
    target c width addr = .outside ↔ addr < c.base ∨ c.base + 64 ≤ addr := by
  unfold target
  by_cases hlo : addr < c.base
  · simp [hlo]
  have hindex : 16 ≤ (addr - c.base) / 4 ↔ c.base + 64 ≤ addr := by omega
  rw [if_neg hlo, or_iff_right hlo, ← hindex, ← regAtIndex_eq_none_iff]
  cases regAtIndex ((addr - c.base) / 4) with
  | none => simp
  | some r => simp only [reduceCtorEq, iff_false]; split <;> simp

/-- An access to the window of another width, or misaligned, is a bad one (20_memory.md R61, R62). -/
theorem target_eq_bad {c : Config} {width : Width} {addr : Nat} (hlo : c.base ≤ addr) (hhi : addr < c.base + 64)
    (hbad : width ≠ .w32 ∨ (addr - c.base) % 4 ≠ 0) : target c width addr = .bad := by
  have hin : target c width addr ≠ .outside := by rw [Ne, target_eq_outside_iff]; omega
  unfold target at hin ⊢
  cases hreg : regAtIndex ((addr - c.base) / 4) with
  | none => simp [hreg] at hin
  | some r => simp [Nat.not_lt.mpr hlo, not_and_or.mpr hbad]

/-- Settles O13: a cycle with no access is parts 1 and 2, and a read adds its data to the outputs. -/
theorem readReturnsStartOfCycle : Obligations.ReadReturnsStartOfCycle := fun s resp r =>
  ⟨step_withInput s resp none, step_read s resp r⟩

/-- Settles O14: such an access goes nowhere but to `busError`. -/
theorem badAccessesGetABusError : Obligations.BadAccessesGetABusError := by
  intro s resp width addr w hlo hhi hbad
  have htarget : target s.cfg width addr = .bad := target_eq_bad hlo hhi hbad
  constructor <;> rw [step_withInput] <;> simp only [busState, beforeBus_cfg, htarget, busError]

/-- Settles O18: the window's sixteen words end at offset 64. -/
theorem outsideAccessesDoNotReach : Obligations.OutsideAccessesDoNotReach := by
  intro s resp width addr w hout
  have htarget : target s.cfg width addr = .outside := target_eq_outside_iff.mpr hout
  constructor <;> rw [step_withInput] <;> simp only [busState, beforeBus_cfg, htarget]

/-- Settles O15, register by register: `storeReg` ignores a write to each, and CMD and the reserved offsets read 0. -/
theorem readOnlyWritesIgnored : Obligations.ReadOnlyWritesIgnored := by
  intro s resp r w
  rw [step_write, step_read]
  constructor <;> intro hr
  · have hkept : writeState r w (s.beforeBus resp) = s.beforeBus resp := by
      cases r
      case ctrl | status | cmd | code | pulseLen | lineSel => simp at hr
      all_goals rfl
    rw [hkept]
  · have hzero : s.readReg r = 0#32 := by
      cases r
      case cmd | reserved34 | reserved38 | reserved3C => rfl
      all_goals simp at hr
    rw [hzero]

/-! ### An accepted command -/

/-- A word that decodes to a command, its operands in their domains or not, has that command's pattern (30_encoding.md
R86, R88). -/
theorem commandOf_of_decode {w : Word} {i : Instr} (h : decode w = .command i ∨ decode w = .illegalOperand i) :
    commandOf w = some i := by
  unfold decode at h
  cases hw : commandOf w with
  | none => simp [hw] at h
  | some j => by_cases hwf : j.wf = true <;> simpa [hw, hwf] using h

theorem acceptWord_eq {w : Word} {i : Instr} (h : commandOf w = some i) (s : State) :
    acceptWord w s = acceptCommand i s := by
  simp only [acceptWord, h]

/-- Part 2 leaves an idle sequencer alone (20_memory.md R68). -/
theorem beforeBus_of_idle {s : State} (resp : Resp) (hf : s.fsm = .idle) : s.beforeBus resp = s.ticked := by
  simp [beforeBus_eq, sequencer, hf, Fsm.waiting, Fsm.timing]

/-- A placed word is a CMD write that finds the sequencer IDLE (log entry 9). -/
theorem withFetchWord_eq (s : State) (w : Word) : s.withFetchWord 32 w.toNat =
    { s with fsm := .idle }.withInput (.of s.input.resp (some (writeOf s.cfg .cmd w))) := by
  rw [State.withFetchWord, Nat.mod_eq_of_lt w.isLt, BitVec.ofNat_toNat, BitVec.setWidth_eq]
  rfl

/-- Settles O7: the accept runs `acceptCommand`, which is what `exec` answers; a placed word is such an accept. -/
theorem stepRunsAcceptedCommand : Obligations.StepRunsAcceptedCommand := by
  intro s w i hw
  have haccept (s : State) (resp : Resp) (hf : (s.beforeBus resp).fsm = .idle) :
      step (s.withInput (.of resp (some (writeOf s.cfg .cmd w)))) = exec i (s.beforeBus resp) := by
    rw [step_accepts w hf, acceptWord_eq (commandOf_of_decode hw), exec_eq_next]
  refine ⟨haccept s, ?_⟩
  have hidle := beforeBus_of_idle (s := { s with fsm := .idle }) s.input.resp rfl
  rw [withFetchWord_eq, haccept { s with fsm := .idle } s.input.resp (by rw [hidle]; rfl), hidle]
  rfl

end Sys2Proof.Machine

/-! ## The encoding -/

namespace Sys2Proof.Machine

/-- The OP, reserved and operand fields of an EMIT_PULSE word (30_encoding.md R80, R82). -/
theorem fields_encode_emitPulse (h l : BitVec 8) : let w := encode (.emitPulse h l)
    opField w = 4#4 ∧ w.extractLsb' 16 12 = 0#12 ∧ w.extractLsb' 8 8 = h ∧ w.extractLsb' 0 8 = l := by
  have := h.isLt
  have := l.isLt
  simp only [encode, opField, field_eq_iff, toNat_append_eq, BitVec.toNat_ofNat]
  omega

/-- A command's word has that command's pattern and operands, in their domains or not (30_encoding.md R80, R82). -/
theorem commandOf_encode (i : Instr) : commandOf (encode i) = some i := by
  cases i with
  | openCmd | closeCmd | transmit => rfl
  | setLine v => cases v <;> rfl
  | emitSymbol sym => revert sym; decide
  | emitPulse h l =>
    obtain ⟨hop, hreserved, hh, hl⟩ := fields_encode_emitPulse h l
    simp [commandOf, hop, hreserved, hh, hl]

/-- A pattern leaves no bit open but the operands, so a word is the number its command's format gives (30_encoding.md
R80, R88). -/
theorem encode_of_commandOf {w : Word} {i : Instr} (h : commandOf w = some i) : encode i = w := by
  have := w.isLt
  apply BitVec.eq_of_toNat_eq
  unfold commandOf at h
  split_ifs at h with hop hlo hop hlo hop hlo hop hlo hop hlo hop hlo <;> cases h
  all_goals
    simp only [opField, field_eq_iff, BitVec.toNat_ofNat] at hop hlo
    simp only [encode, toNat_append_eq, toNat_field, toNat_bit0, BitVec.toNat_ofNat]
    omega

theorem commandOf_eq_some_iff {w : Word} {i : Instr} : commandOf w = some i ↔ encode i = w :=
  ⟨encode_of_commandOf, fun h => h ▸ commandOf_encode i⟩

theorem decode_of_commandOf {w : Word} {i : Instr} (h : commandOf w = some i) :
    decode w = if i.wf then .command i else .illegalOperand i := by
  simp only [decode, h]

theorem decode_eq_illegalOp_iff {w : Word} : decode w = .illegalOp ↔ commandOf w = none := by
  cases h : commandOf w with
  | none => simp [decode, h]
  | some i => rw [decode_of_commandOf h]; split <;> simp

/-- Settles O1: the word's command is the one encoded, and `decode` checks its operands. -/
theorem decodeOfEncode : Obligations.DecodeOfEncode := fun i => decode_of_commandOf (commandOf_encode i)

/-- Settles O2: a decoded word has the command's pattern, which fixes every bit but the operands. -/
theorem encodeOfDecode : Obligations.EncodeOfDecode := fun _ _ h => encode_of_commandOf (commandOf_of_decode h)

/-! ### The opcode map -/

/-- A field that a mask covers holds the pattern's value in every word of that pattern (30_encoding.md R83). -/
theorem field_of_masked {w mask pattern : Word} (h : w &&& mask = pattern) (lo len : Nat)
    (hmask : mask.extractLsb' lo len = BitVec.allOnes len) : w.extractLsb' lo len = pattern.extractLsb' lo len := by
  rw [← h, BitVec.extractLsb'_and, hmask, BitVec.and_allOnes]

/-- A row's mask covers the OP field and the reserved bits of its command (30_encoding.md R83, R85), so a word with the
row's pattern is a word of that command. -/
theorem commandOf_of_fits {i : Instr} {w : Word} (h : i.row.fits w = true) :
    ∃ j, commandOf w = some j ∧ j.row = i.row := by
  rw [fits_iff_and] at h
  unfold commandOf opField
  cases i with
  | openCmd | closeCmd | transmit =>
    rw [field_of_masked h 28 4 (by decide), field_of_masked h 0 28 (by decide)]
    exact ⟨_, rfl, rfl⟩
  | setLine v =>
    dsimp only [Instr.row] at h
    rw [field_of_masked h 28 4 (by decide), field_of_masked h 1 27 (by decide)]
    exact ⟨_, rfl, rfl⟩
  | emitPulse _ _ =>
    dsimp only [Instr.row] at h
    rw [field_of_masked h 28 4 (by decide), field_of_masked h 16 12 (by decide)]
    exact ⟨_, rfl, rfl⟩
  | emitSymbol _ =>
    dsimp only [Instr.row] at h
    rw [field_of_masked h 28 4 (by decide), field_of_masked h 2 26 (by decide)]
    exact ⟨_, rfl, rfl⟩

/-- Family Pattern of Laws/PerInstr, for every command. -/
theorem row_fits_encode (i : Instr) : i.row.fits (encode i) = true := by
  cases i with
  | openCmd => exact Laws.Pattern.openCmd
  | closeCmd => exact Laws.Pattern.closeCmd
  | setLine v => exact Laws.Pattern.setLine v
  | emitPulse h l => exact Laws.Pattern.emitPulse h l
  | emitSymbol sym => exact Laws.Pattern.emitSymbol sym
  | transmit => exact Laws.Pattern.transmit

theorem row_fits_of_commandOf {w : Word} {i : Instr} (h : commandOf w = some i) : i.row.fits w = true :=
  encode_of_commandOf h ▸ row_fits_encode i

theorem mem_opcodeMap_iff {r : OpcodeRow} : r ∈ opcodeMap ↔ ∃ i : Instr, i.row = r := by
  constructor
  · intro h
    simp only [opcodeMap, List.mem_cons, List.not_mem_nil, or_false] at h
    rcases h with rfl | rfl | rfl | rfl | rfl | rfl <;> exact ⟨_, rfl⟩
  · rintro ⟨i, rfl⟩
    cases i <;> simp [opcodeMap, Instr.row]

/-- A word has the pattern of a row of the map exactly when its command belongs to that row (30_encoding.md R83). -/
theorem fits_iff_of_mem {r : OpcodeRow} (hr : r ∈ opcodeMap) (w : Word) :
    r.fits w = true ↔ ∃ j, commandOf w = some j ∧ j.row = r := by
  obtain ⟨i, rfl⟩ := mem_opcodeMap_iff.mp hr
  exact ⟨commandOf_of_fits, fun ⟨_, hj, hrow⟩ => hrow ▸ row_fits_of_commandOf hj⟩

/-- Settles O3: a word has at most one command, and the rows it fits are those of its command. -/
theorem opcodeMapDecidesDecoding : Obligations.OpcodeMapDecidesDecoding := by
  intro w
  refine ⟨?_, fun i h => row_fits_of_commandOf (commandOf_of_decode h), ?_⟩
  · rw [decode_eq_illegalOp_iff]
    constructor
    · intro hnone r hr
      rw [← Bool.not_eq_true, fits_iff_of_mem hr, hnone]
      simp
    · intro hfits
      rw [Option.eq_none_iff_forall_ne_some]
      intro i hi
      simpa [row_fits_of_commandOf hi] using hfits i.row (mem_opcodeMap_iff.mpr ⟨i, rfl⟩)
  · intro r hr r' hr' h h'
    obtain ⟨j, hj, hrow⟩ := (fits_iff_of_mem hr w).mp h
    obtain ⟨j', hj', hrow'⟩ := (fits_iff_of_mem hr' w).mp h'
    have hsame : j = j' := Option.some.inj (hj.symm.trans hj')
    rw [← hrow, ← hrow', hsame]

/-- Settles O4: the words of commands are their encodings, and the others have no pattern. -/
theorem sampleWordsDecode : Obligations.SampleWordsDecode :=
  ⟨decodeOfEncode .openCmd, decodeOfEncode .closeCmd, decodeOfEncode (.setLine true),
   decodeOfEncode (.emitPulse 3#8 1#8), decodeOfEncode (.emitSymbol 2#2), decodeOfEncode .transmit,
   decode_eq_illegalOp_iff.mpr (by decide), decode_eq_illegalOp_iff.mpr (by decide),
   decode_eq_illegalOp_iff.mpr (by decide), decodeOfEncode (.emitPulse 1#8 0#8), decodeOfEncode (.emitSymbol 3#2)⟩

/-! ### Words that complete in their accept cycle -/

/-- An accepted word that completes at once with `r` issues no request and makes the accept and completion updates of
60_exceptions.md R170 alone. -/
theorem step_of_completing {s : State} {resp : Resp} {w : Word} {r : Result} (hf : (s.beforeBus resp).fsm = .idle)
    (h : acceptWord w (s.beforeBus resp) = complete r (acceptClear (s.beforeBus resp))) :
    (s.beforeBus resp).out.lreq = none ∧
    step (s.withInput (.of resp (some (writeOf s.cfg .cmd w)))) =
      .next { s.beforeBus resp with
        done := true, err := r, rep := 0#4, symIdx := 0#5, phase := false, setcnt := 0#32, errInfo := 0#32
        fsm := .idle, out := { (s.beforeBus resp).out with completed := true } } :=
  ⟨beforeBus_lreq_of_idle hf, by rw [step_accepts w hf, h]; rfl⟩

/-- Settles O5: no command has such a word, so the accept completes with ILLEGAL_OP. -/
theorem reservedWordsGiveIllegalOp : Obligations.ReservedWordsGiveIllegalOp := by
  intro s resp w hw hf
  have hnone : commandOf w = none := by
    unfold commandOf opField
    rcases hw with hop | hop | ⟨hop | hop | hop, hlo⟩ | ⟨hop, hlo⟩ | ⟨hop, hlo⟩ | ⟨hop, hlo⟩
    · simp [hop]
    · have hne (c : BitVec 4) (hc : c.toNat < 7) : w.extractLsb' 28 4 ≠ c := by rintro rfl; omega
      simp [hne]
    all_goals simp [hop, hlo]
  exact step_of_completing hf (by simp only [acceptWord, hnone])

/-- A command with an operand outside its domain does nothing but complete with ILLEGAL_OPERAND (30_encoding.md R86,
60_exceptions.md R173). -/
theorem acceptCommand_of_not_wf {i : Instr} (h : i.wf = false) (s : State) :
    acceptCommand i s = complete .illegalOperand (acceptClear s) := by
  cases i with
  | openCmd | closeCmd | setLine _ | transmit => simp [Instr.wf] at h
  | emitPulse high low =>
    have hzero : high = 0#8 ∨ low = 0#8 := by simpa [Instr.wf, or_iff_not_imp_left] using h
    simp only [acceptCommand, emitPulseAccept, if_pos hzero]
  | emitSymbol sym =>
    obtain rfl : sym = 3#2 := by simpa [Instr.wf] using h
    rfl

/-- A word with OP 4 and reserved bits 0 is an EMIT_PULSE, whatever its operands (30_encoding.md R82). -/
theorem commandOf_emitPulse_word {w : Word} (h : w.extractLsb' 16 16 = 0x4000#16) :
    commandOf w = some (.emitPulse (w.extractLsb' 8 8) (w.extractLsb' 0 8)) := by
  have := w.isLt
  rw [field_eq_iff, BitVec.toNat_ofNat] at h
  rw [commandOf_eq_some_iff]
  apply BitVec.eq_of_toNat_eq
  simp only [encode, toNat_append_eq, toNat_field, BitVec.toNat_ofNat]
  omega

/-- Settles O6: such a word has the pattern of a command whose operands lie outside their domains. -/
theorem operandsOutsideTheirDomain : Obligations.OperandsOutsideTheirDomain := by
  intro s resp w hw hf
  have hbad : ∃ i, commandOf w = some i ∧ i.wf = false := by
    rcases hw with rfl | ⟨hpulse, hzero⟩
    · exact ⟨.emitSymbol 3#2, by decide, rfl⟩
    · refine ⟨_, commandOf_emitPulse_word hpulse, ?_⟩
      rcases hzero with hzero | hzero <;> simp [Instr.wf, hzero]
  obtain ⟨i, hi, hwf⟩ := hbad
  exact step_of_completing hf (by rw [acceptWord_eq hi, acceptCommand_of_not_wf hwf])

end Sys2Proof.Machine

/-! ## The commands in their accept cycle -/

namespace Sys2Proof.Machine

/-- A command ends in its accept cycle with the result its checks give (60_exceptions.md R172, R173). -/
theorem acceptCommand_of_endsAtOnce {i : Instr} {s : State} {r : Result} (h : endsAtOnce i s r) :
    acceptCommand i s = complete r (acceptClear s) := by
  cases i with
  | openCmd =>
    rcases h with ⟨rfl, ho⟩ | ⟨rfl, ho, hpin⟩ | ⟨rfl, ho, hpin, hpl⟩
    · simp [acceptCommand, openAccept, ho]
    · simp [acceptCommand, openAccept, ho, hpin]
    · simp [acceptCommand, openAccept, ho, hpin, hpl]
  | closeCmd =>
    obtain ⟨rfl, ho⟩ := h
    simp [acceptCommand, closeAccept, ho]
  | setLine v =>
    obtain ⟨rfl, ho⟩ := h
    simp [acceptCommand, setLineAccept, ho]
  | emitPulse x y =>
    rcases h with ⟨rfl, hzero⟩ | ⟨rfl, hx, hy, ho⟩
    · simp [acceptCommand, emitPulseAccept, hzero]
    · simp [acceptCommand, emitPulseAccept, hx, hy, ho]
  | emitSymbol sym =>
    rcases h with ⟨rfl, hnone⟩ | ⟨rfl, hsome, ho⟩
    · simp [acceptCommand, emitSymbolAccept, hnone]
    · obtain ⟨y, hy⟩ := Option.ne_none_iff_exists'.mp hsome
      simp [acceptCommand, emitSymbolAccept, hy, ho]
  | transmit =>
    rcases h with ⟨rfl, hcode⟩ | ⟨rfl, hcode, ho⟩
    · simp [acceptCommand, transmitAccept, hcode]
    · simp [acceptCommand, transmitAccept, hcode, ho]

/-- A line-driving command that passes its checks on an open block begins with the operands `Starts` gives it. -/
theorem acceptCommand_of_starts {i : Instr} {s : State} {op : OpKind} {v : Level} {h l : BitVec 8} {frame : BitVec 24}
    (hs : Starts i s op v h l frame) (ho : s.isOpen = true) :
    acceptCommand i s = beginCommand op { acceptClear s with v := v, h := h, l := l, frame := frame } := by
  cases i with
  | openCmd => exact hs.elim
  | closeCmd => exact hs.elim
  | setLine u =>
    obtain ⟨rfl, rfl, rfl, rfl, rfl⟩ := hs
    simp [acceptCommand, setLineAccept, ho]
  | emitPulse x y =>
    obtain ⟨rfl, rfl, rfl, rfl, rfl, hh, hl⟩ := hs
    simp [acceptCommand, emitPulseAccept, hh, hl, ho]
  | emitSymbol sym =>
    obtain ⟨rfl, rfl, rfl, y, hy, rfl, rfl⟩ := hs
    simp [acceptCommand, emitSymbolAccept, hy, ho]
  | transmit =>
    obtain ⟨rfl, rfl, rfl, hcode, rfl, rfl⟩ := hs
    simp [acceptCommand, transmitAccept, hcode, ho]

/-- The next state of a command that ends at once: the accept and completion updates of 60_exceptions.md R170 alone. -/
theorem exec_of_endsAtOnce {i : Instr} {s : State} {r : Result} (h : endsAtOnce i s r) :
    exec i s = .next { s with
      done := true, err := r, rep := 0#4, symIdx := 0#5, phase := false, setcnt := 0#32, errInfo := 0#32
      fsm := .idle, out := { s.out with completed := true } } := by
  rw [exec_eq_next, acceptCommand_of_endsAtOnce h]
  rfl

section
variable {i : Instr} {s : State} {op : OpKind} {v : Level} {h l : BitVec 8} {frame : BitVec 24}

/-- On a BOARD block a line-driving command requests its LOOKUP first (40_line.md R106). -/
theorem exec_of_starts_board (hs : Starts i s op v h l frame) (ho : s.isOpen = true) (hb : s.cfg.backend = .board) :
    exec i s = .next { s with
      done := false, err := .ok, rep := 0#4, symIdx := 0#5, phase := false, setcnt := 0#32, errInfo := 0#32
      v := v, h := h, l := l, frame := frame, op := op, fsm := .wLookup
      out := { s.out with lreq := some (.lookupLine (lineDev s.activeLine) (lineOffset s.activeLine)) } } := by
  simp only [exec_eq_next, acceptCommand_of_starts hs ho, beginCommand, acceptClear_cfg, hb]
  rfl

/-- On a DIRECT block SET_LINE issues its SET at once, the first one counted (40_line.md R106, R109). -/
theorem exec_of_starts_set (hs : Starts i s .setLine v h l frame) (ho : s.isOpen = true)
    (hb : s.cfg.backend = .direct) :
    exec i s = .next { s with
      done := false, err := .ok, rep := 0#4, symIdx := 0#5, phase := false, setcnt := 1#32, errInfo := 0#32
      v := v, h := h, l := l, frame := frame, op := .setLine, fsm := .wSetV
      out := { s.out with lreq := some (.setLine v) } } := by
  simp only [exec_eq_next, acceptCommand_of_starts hs ho, beginCommand, acceptClear_cfg, hb]
  rfl

/-- On a DIRECT block any other line-driving command issues its pulse's SET(1) at once (40_line.md R106, 41_pulse.md
R122). -/
theorem exec_of_starts_pulse (hs : Starts i s op v h l frame) (hop : op ≠ .setLine) (ho : s.isOpen = true)
    (hb : s.cfg.backend = .direct) :
    exec i s = .next { s with
      done := false, err := .ok, rep := 0#4, symIdx := 0#5, phase := false, setcnt := 1#32, errInfo := 0#32
      v := v, h := h, l := l, frame := frame, op := op, fsm := .wSetH
      out := { s.out with lreq := some (.setLine true) } } := by
  simp only [exec_eq_next, acceptCommand_of_starts hs ho, beginCommand, acceptClear_cfg, hb, firstAction, if_neg hop]
  rfl

end

/-- Settles O22: a failed check ends OPEN at once; past the checks the backend decides. -/
theorem openRuns : Obligations.OpenRuns := by
  intro s done
  refine ⟨fun ho => exec_of_endsAtOnce (.inl ⟨rfl, ho⟩),
    fun ho hpin => exec_of_endsAtOnce (.inr (.inl ⟨rfl, ho, hpin⟩)),
    fun ho hpin hpl => exec_of_endsAtOnce (.inr (.inr ⟨rfl, ho, hpin, decide_eq_false (not_le.mpr hpl)⟩)),
    fun ho hpin hpl => ?_⟩
  have hpin' : lineOffset s.lineSel ≠ noPin := hpin
  have hpl' : pulseLenLegal s.pulseLen = true := decide_eq_true hpl
  constructor <;> intro hb <;>
    simp only [exec_eq_next, acceptCommand, openAccept, acceptClear_isOpen, acceptClear_lineSel, acceptClear_pulseLen,
      acceptClear_cfg, ho, hpin', hpl', hb] <;>
    rfl

/-- Settles O23: CLOSE of a closed block ends at once; of an open one the backend decides. -/
theorem closeRuns : Obligations.CloseRuns := by
  intro s done
  refine ⟨fun ho => exec_of_endsAtOnce (i := .closeCmd) ⟨rfl, ho⟩, fun ho hb => ?_, fun ho hb => ?_⟩ <;>
    simp only [exec_eq_next, acceptCommand, closeAccept, acceptClear_isOpen, acceptClear_cfg, ho, hb] <;>
    rfl

/-- Settles O24: SET_LINE ends at once on a closed block and starts on an open one. -/
theorem setLineRuns : Obligations.SetLineRuns := by
  intro s v
  have hstart : Starts (.setLine v) s .setLine v s.h s.l s.frame := ⟨rfl, rfl, rfl, rfl, rfl⟩
  exact ⟨fun ho => exec_of_endsAtOnce (i := .setLine v) ⟨rfl, ho⟩, exec_of_starts_set hstart,
    exec_of_starts_board hstart⟩

/-- Settles O25: the operands are checked before the block is seen to be open. -/
theorem emitPulseRuns : Obligations.EmitPulseRuns := by
  intro s h l done
  refine ⟨fun hzero => exec_of_endsAtOnce (.inl ⟨rfl, hzero⟩), fun hh hl => ?_⟩
  have hstart : Starts (.emitPulse h l) s .emitPulse s.v h l s.frame := ⟨rfl, rfl, rfl, rfl, rfl, hh, hl⟩
  exact ⟨fun ho => exec_of_endsAtOnce (.inr ⟨rfl, hh, hl, ho⟩), exec_of_starts_pulse hstart (by decide),
    exec_of_starts_board hstart⟩

/-- The three symbols and their ratios, by SYM code (42_symbol.md R140). -/
theorem symbolOf_ratio {sym : BitVec 2} {h l : BitVec 8}
    (hrow : (sym = 0#2 ∧ h = 1#8 ∧ l = 3#8) ∨ (sym = 1#2 ∧ h = 3#8 ∧ l = 1#8) ∨
      (sym = 2#2 ∧ h = 1#8 ∧ l = 31#8)) :
    ∃ y, symbolOf sym = some y ∧ h = (ratio y).1 ∧ l = (ratio y).2 := by
  rcases hrow with ⟨rfl, rfl, rfl⟩ | ⟨rfl, rfl, rfl⟩ | ⟨rfl, rfl, rfl⟩
  · exact ⟨.zero, rfl, rfl, rfl⟩
  · exact ⟨.one, rfl, rfl, rfl⟩
  · exact ⟨.sync, rfl, rfl, rfl⟩

/-- Settles O26: SYM = 3 names no symbol; the others start the pulse of their ratio. -/
theorem emitSymbolRuns : Obligations.EmitSymbolRuns := by
  intro s sym done
  refine ⟨fun hsym => exec_of_endsAtOnce (.inl ⟨rfl, by rw [hsym]; rfl⟩), fun h l hrow => ?_⟩
  obtain ⟨y, hy, hh, hl⟩ := symbolOf_ratio hrow
  have hstart : Starts (.emitSymbol sym) s .emitSymbol s.v h l s.frame := ⟨rfl, rfl, rfl, y, hy, hh, hl⟩
  exact ⟨fun ho => exec_of_endsAtOnce (.inr ⟨rfl, by simp [hy], ho⟩), exec_of_starts_pulse hstart (by decide),
    exec_of_starts_board hstart⟩

/-- The first symbol of a transmission is the code's most significant bit (43_frame.md R150). -/
theorem symAt_code_zero (code : Word) :
    symAt (code.extractLsb' 0 24) 0 = if code.getLsbD 23 then .one else .zero := by
  simp [symAt, bitAt]

/-- TRANSMIT's range check on CODE as a signed number (43_frame.md R152). -/
theorem codeInRange_iff_toInt {w : Word} : codeInRange w = true ↔ 0 ≤ w.toInt ∧ w.toInt < 2 ^ 24 := by
  rw [codeInRange, Bool.and_eq_true, decide_eq_true_iff, decide_eq_true_iff, s32, frameBits]

/-- Settles O27: the range is checked before the block is seen to be open (60_exceptions.md R173), and the first symbol is
bit 23 of CODE. -/
theorem transmitRuns : Obligations.TransmitRuns := by
  intro s done
  refine ⟨fun hout => exec_of_endsAtOnce (.inl ⟨rfl, ?_⟩), fun hlo hhi => ?_⟩
  · rw [← Bool.not_eq_true, codeInRange_iff_toInt]
    omega
  have hcode : codeInRange s.code = true := codeInRange_iff_toInt.mpr ⟨hlo, hhi⟩
  refine ⟨fun ho => exec_of_endsAtOnce (.inr ⟨rfl, hcode, ho⟩), fun h l hbit => ?_⟩
  have hunits : h = (ratio (symAt (s.code.extractLsb' 0 24) 0)).1 ∧
      l = (ratio (symAt (s.code.extractLsb' 0 24) 0)).2 := by
    rcases hbit with ⟨hb, rfl, rfl⟩ | ⟨hb, rfl, rfl⟩ <;> rw [symAt_code_zero, hb] <;> exact ⟨rfl, rfl⟩
  have hstart : Starts .transmit s .transmit s.v h l (s.code.extractLsb' 0 24) := ⟨rfl, rfl, rfl, hcode, hunits⟩
  exact ⟨exec_of_starts_pulse hstart (by decide), exec_of_starts_board hstart⟩

end Sys2Proof.Machine

/-! ## Line responses -/

namespace Sys2Proof.Machine

/-- A SET issued in part 2 leads to a wait for its answer (41_pulse.md R122). -/
theorem SeqStep.waits_of_set {resp : Resp} {s t : State} {v : Level} (hst : SeqStep resp s t) (hq : s.out.lreq = none)
    (hset : t.out.lreq = some (.setLine v)) : t.fsm = .wSetV ∨ t.fsm = .wSetH ∨ t.fsm = .wSetL := by
  cases hst
  case foundForSet => exact .inl rfl
  case foundForPulse | nextPulse => exact .inr (.inl rfl)
  case highEnds => exact .inr (.inr rfl)
  all_goals simp [hq] at hset

/-- An accept issues a SET only on an open block, and leaves it open. -/
theorem AcceptStep.isOpen_of_set {cmd : Option Instr} {s t : State} {v : Level} (hst : AcceptStep cmd s t)
    (hq : s.out.lreq = none) (hset : t.out.lreq = some (.setLine v)) : t.isOpen = true := by
  cases hst
  case setRequested hopen _ => exact hopen
  case pulseStarted hopen _ _ => exact hopen
  all_goals simp [hq] at hset

/-- A block that waits for the answer to a SET is open (40_line.md R110). -/
theorem State.Inv.isOpen_of_waits {s : State} (h : s.Inv) (hf : s.fsm = .wSetV ∨ s.fsm = .wSetH ∨ s.fsm = .wSetL) :
    s.isOpen = true := by
  have hfits := h.fsm
  rcases hf with hf | hf | hf <;> simp only [State.fsmFits, hf] at hfits
  · obtain ⟨-, ho, -⟩ := hfits
    exact ho
  · obtain ⟨⟨ho, -⟩, -⟩ := hfits
    exact ho
  · obtain ⟨⟨ho, -⟩, -⟩ := hfits
    exact ho

/-- Settles O42: the state after the cycle meets the invariant; a SET of part 2 leads to a wait for its answer, and one of
an accept needs an open block. -/
theorem noSetWhileClosed : Obligations.NoSetWhileClosed := by
  intro s t v h hstep
  have ht : t.Inv := invariantKept s t h hstep
  refine ⟨fun hset => ?_, ht.lineValid⟩
  by_cases hr : s.input.rst = true
  · obtain rfl := eq_resetCycle hstep hr
    simp [resetCycle, resetOutputs_lreq] at hset
  rcases running_cases hstep (by simpa using hr) with ⟨w, -, hf, hacc⟩ | ⟨-, hview⟩
  · exact hacc.isOpen_of_set (beforeBus_lreq_of_idle hf) hset
  · obtain ⟨-, -, -, -, -, -, -, hfsm, hlreq, -⟩ := view_eq hview
    have hwaits := (seqStep_beforeBus s.input.resp s).waits_of_set rfl (hlreq ▸ hset)
    rw [← hfsm] at hwaits
    exact ht.isOpen_of_waits hwaits

/-- A response outside the waiting states is ignored (40_line.md R102). -/
theorem sequencer_of_not_waiting {s : State} (hf : s.fsm.waiting = false) (resp : Resp) :
    sequencer resp s = sequencer .none s := by
  simp [sequencer, hf]

/-- Settles O12: outside the waiting states the response reaches nothing, and a reset cycle does not look at it. -/
theorem strayResponsesIgnored : Obligations.StrayResponsesIgnored := by
  intro s resp bus
  refine ⟨fun hf => ?_, ?_, fun hf => ?_⟩
  · have hwait : s.ticked.fsm.waiting = false := by rcases hf with hf | hf | hf <;> simp [hf, Fsm.waiting]
    rw [step_withInput, step_withInput, beforeBus_eq, beforeBus_eq, sequencer_of_not_waiting hwait]
  · rw [step_of_reset rfl, step_of_reset rfl]
    rfl
  · rw [step_withInput, beforeBus_of_idle resp hf]
    rfl

/-- A cycle with no access that answers a wait is parts 1 and 2 (20_memory.md R68). -/
theorem step_of_waiting {s : State} (hf : s.fsm.waiting = true) (resp : Resp) :
    step (s.withInput (.of resp none)) = .next (onResponse resp s.ticked) := by
  rw [step_withInput, beforeBus_eq, sequencer, ticked_fsm, if_pos hf]
  rfl

/-- Settles O30: the answers of `onOk` in the waits for OPEN, RELEASE and LOOKUP. -/
theorem lifecycleAnswersOk : Obligations.LifecycleAnswersOk := by
  intro s
  refine ⟨fun hf => ?_, fun hf => ?_, fun hf hop => ?_, fun hf hop => ?_⟩ <;>
    rw [step_of_waiting (by simp [hf, Fsm.waiting])] <;> simp only [onResponse, onOk, ticked_fsm, hf]
  · rfl
  · rfl
  · exact congrArg Host.Outcome.next (if_pos hop)
  · have hne : s.op ≠ .setLine := by rcases hop with hop | hop | hop <;> simp [hop]
    exact congrArg Host.Outcome.next (if_neg hne)

/-- Settles O31: the answers of `onOk` in the waits for a SET. -/
theorem setAnsweredOk : Obligations.SetAnsweredOk := by
  intro s
  refine ⟨fun hf => ?_, fun hf => ?_, fun hf => ?_⟩ <;>
    rw [step_of_waiting (by simp [hf, Fsm.waiting])] <;> simp only [onResponse, onOk, ticked_fsm, hf] <;> rfl

/-- Settles O32: each wait fails with its own request, and only a failed RELEASE closes the block first. -/
theorem lineErrorEndsTheCommand : Obligations.LineErrorEndsTheCommand := by
  intro s kind level hfail
  rcases hfail with ⟨hf, rfl, rfl⟩ | ⟨hf, rfl, rfl⟩ | ⟨hf, rfl, rfl⟩ | ⟨hf, rfl, rfl⟩ | ⟨hf, rfl, rfl⟩ |
    ⟨hf, rfl, rfl⟩ <;>
    rw [step_of_waiting (by simp [hf, Fsm.waiting])] <;>
    simp [onResponse, onErr, hf] <;> rfl

end Sys2Proof.Machine

/-! ## The phase timer -/

namespace Sys2Proof.Machine

/-! ### The end of a phase -/

/-- Part 2 of a cycle that times a phase is one count of the phase timer (41_pulse.md R120). -/
theorem beforeBus_of_timing {s : State} (hf : s.fsm.timing = true) (resp : Resp) :
    s.beforeBus resp = countDown s.ticked := by
  simp [beforeBus_eq, sequencer, Fsm.waiting_of_timing hf, hf]

/-- What the expiry of a phase finds in its last cycle: the counters moved on and st.rem at 0 (41_pulse.md R120). -/
def State.expiring (s : State) : State := { s.ticked with rem := 0 }

@[simp] theorem expiring_fsm (s : State) : s.expiring.fsm = s.fsm := rfl

/-- The phase expires in its last cycle (41_pulse.md R120). -/
theorem beforeBus_of_expiring {s : State} (hf : s.fsm.timing = true) (hrem : s.rem = 1) (resp : Resp) :
    s.beforeBus resp = onExpire s.expiring := by
  simp [beforeBus_of_timing hf, countDown, hrem, State.expiring]

theorem beforeBus_of_high_expiring {s : State} (hf : s.fsm = .tHigh) (hrem : s.rem = 1) (resp : Resp) :
    s.beforeBus resp = highExpired s.expiring := by
  rw [beforeBus_of_expiring (by simp [hf, Fsm.timing]) hrem, onExpire, expiring_fsm, if_pos hf]

theorem beforeBus_of_low_expiring {s : State} (hf : s.fsm = .tLow) (hrem : s.rem = 1) (resp : Resp) :
    s.beforeBus resp = pulseDone s.expiring := by
  rw [beforeBus_of_expiring (by simp [hf, Fsm.timing]) hrem, onExpire, expiring_fsm, if_neg (by simp [hf])]

/-- The low phase of the last pulse of a command ends it (41_pulse.md R122, 43_frame.md R154). -/
theorem pulseDone_of_last {s : State}
    (h : s.op = .emitPulse ∨ s.op = .emitSymbol ∨ (s.op = .transmit ∧ s.symIdx = 24#5 ∧ s.rep = 9#4)) :
    pulseDone s = complete .ok s := by
  rcases h with hop | hop | ⟨hop, hlast⟩ <;> simp only [pulseDone, hop]
  exact if_pos hlast

/-- The low phase of any other symbol starts the next one (43_frame.md R154). -/
theorem pulseDone_of_not_last {s : State} (hop : s.op = .transmit) (hlast : ¬ (s.symIdx = 24#5 ∧ s.rep = 9#4)) :
    pulseDone s = startSymbol (nextSymbol s) := by
  simp only [pulseDone, hop]
  exact if_neg hlast

theorem OpKind.pulses_iff {op : OpKind} :
    op.pulses = true ↔ op = .emitPulse ∨ op = .emitSymbol ∨ op = .transmit := by
  cases op <;> simp [OpKind.pulses]

/-- The end of a low phase of a pulse command (41_pulse.md R122). -/
theorem pulseDone_cases {s : State} (h : s.op.pulses = true) :
    pulseDone s = complete .ok s ∨ pulseDone s = startSymbol (nextSymbol s) := by
  rcases OpKind.pulses_iff.mp h with hop | hop | hop
  · exact .inl (pulseDone_of_last (.inl hop))
  · exact .inl (pulseDone_of_last (.inr (.inl hop)))
  · by_cases hlast : s.symIdx = 24#5 ∧ s.rep = 9#4
    · exact .inl (pulseDone_of_last (.inr (.inr ⟨hop, hlast⟩)))
    · exact .inr (pulseDone_of_not_last hop hlast)

/-- The next symbol's place: after SYNC the next repetition begins (43_frame.md R154). -/
theorem nextSymbol_eq {s : State} {i : BitVec 5} {r : BitVec 4}
    (h : (s.symIdx = 24#5 ∧ i = 0#5 ∧ r = s.rep + 1#4) ∨ (s.symIdx ≠ 24#5 ∧ i = s.symIdx + 1#5 ∧ r = s.rep)) :
    nextSymbol s = { s with symIdx := i, rep := r } := by
  rcases h with ⟨hsync, rfl, rfl⟩ | ⟨hcode, rfl, rfl⟩
  · simp [nextSymbol, hsync]
  · simp [nextSymbol, hcode]

/-- Settles O34: the last cycle of a phase is its expiry alone, and the command decides what the end of a low phase
does. -/
theorem phaseEnds : Obligations.PhaseEnds := by
  intro s resp hrem
  have hlow (hf : s.fsm = .tLow) : step (s.withInput (.of resp none)) = .next (pulseDone s.expiring) := by
    rw [step_withInput, beforeBus_of_low_expiring hf hrem]
    rfl
  refine ⟨fun hf => ?_, fun hf hop => ?_, fun hf hop hidx hrep => ?_, fun hf hop hlast i r hnext => ?_⟩
  · rw [step_withInput, beforeBus_of_high_expiring hf hrem]
    rfl
  · rw [hlow hf, pulseDone_of_last (s := s.expiring) (hop.imp_right .inl)]
    rfl
  · rw [hlow hf, pulseDone_of_last (s := s.expiring) (.inr (.inr ⟨hop, hidx, hrep⟩))]
    rfl
  · rw [hlow hf, pulseDone_of_not_last (s := s.expiring) hop hlast, nextSymbol_eq (s := s.expiring) hnext]
    rfl

/-! ### The run of a phase -/

/-- A cycle that leaves the sequencer busy after part 2 accepts nothing. -/
theorem commandView_of_busy {s t : State} (h : step s = .next t) (hr : s.input.rst = false)
    (hbusy : (s.beforeBus s.input.resp).fsm ≠ .idle) : t.commandView = (s.beforeBus s.input.resp).commandView := by
  rcases running_cases h hr with ⟨_, -, hidle, -⟩ | ⟨-, hview⟩
  · exact absurd hidle hbusy
  · exact hview

/-- A command that completes in part 2 has completed in the cycle, whatever the bus access does (20_memory.md R68). -/
theorem completed_of_beforeBus {s t : State} (h : step s = .next t) (hr : s.input.rst = false)
    (hm : (s.beforeBus s.input.resp).out.completed = true) : t.out.completed = true := by
  rcases running_cases h hr with ⟨_, -, -, hacc⟩ | ⟨-, hview⟩
  · exact hacc.completed hm
  · obtain ⟨-, -, -, -, -, -, -, -, -, hcompleted⟩ := view_eq hview
    rw [hcompleted, hm]

/-- A cycle of a phase before its last counts down by one, and nothing comes of it (41_pulse.md R120). -/
theorem counts_of_step {s t : State} (h : step s = .next t) (hr : s.input.rst = false) (hf : s.fsm.timing = true)
    (hrem : 1 < s.rem) : t.commandView = { s.ticked with rem := s.rem - 1 }.commandView := by
  have hm : s.beforeBus s.input.resp = { s.ticked with rem := s.rem - 1 } := by
    simp [beforeBus_of_timing hf, countDown, Nat.sub_ne_zero_of_lt hrem]
  have hbusy : s.fsm ≠ .idle := by
    intro hidle
    simp [hidle, Fsm.timing] at hf
  rw [← hm]
  exact commandView_of_busy h hr (by rw [hm]; exact hbusy)

/-- A high phase that expires issues SET(0) (41_pulse.md R122). -/
theorem high_expires {s t : State} (h : step s = .next t) (hr : s.input.rst = false) (hf : s.fsm = .tHigh)
    (hrem : s.rem = 1) : t.fsm = .wSetL ∧ t.out.lreq = some (.setLine false) ∧ t.phase = true := by
  have hm := beforeBus_of_high_expiring hf hrem s.input.resp
  have hview := commandView_of_busy h hr (by rw [hm]; exact Fsm.noConfusion)
  rw [hm] at hview
  exact ⟨congrArg State.fsm hview, (congrArg (·.out.lreq) hview :), congrArg State.phase hview⟩

/-- A low phase of a pulse command that expires ends the command or issues the next symbol's SET(1) (41_pulse.md R122,
43_frame.md R154). -/
theorem low_expires {s t : State} (h : step s = .next t) (hr : s.input.rst = false) (hf : s.fsm = .tLow)
    (hop : s.op.pulses = true) (hrem : s.rem = 1) :
    t.out.completed = true ∨ (t.fsm = .wSetH ∧ t.out.lreq = some (.setLine true) ∧ t.phase = false) := by
  have hm := beforeBus_of_low_expiring hf hrem s.input.resp
  rcases pulseDone_cases (s := s.expiring) hop with hend | hnext
  · rw [hend] at hm
    exact .inl (completed_of_beforeBus h hr (by rw [hm]; rfl))
  · rw [hnext] at hm
    have hview := commandView_of_busy h hr (by rw [hm]; exact Fsm.noConfusion)
    rw [hm] at hview
    exact .inr ⟨congrArg State.fsm hview, (congrArg (·.out.lreq) hview :), congrArg State.phase hview⟩

/-- A phase with `n + 1` cycles left goes on for `n` cycles, with the same command in flight. -/
theorem phase_goes_on {t : Nat → State} {n : Nat} (ht : Trace t) (hf : (t 0).fsm.timing = true)
    (hrem : (t 0).rem = n + 1) (hr : ∀ k, k ≤ n → (t k).input.rst = false) {k : Nat} (hk : k ≤ n) :
    (t k).fsm = (t 0).fsm ∧ (t k).op = (t 0).op ∧ (t k).rem = n + 1 - k := by
  induction k with
  | zero => exact ⟨rfl, rfl, hrem⟩
  | succ k ih =>
    obtain ⟨hfsm, hop, hleft⟩ := ih (by omega)
    have hview := counts_of_step (ht k) (hr k (by omega)) (hfsm ▸ hf) (by omega)
    refine ⟨(congrArg State.fsm hview).trans hfsm, (congrArg State.op hview).trans hop, ?_⟩
    calc (t (k + 1)).rem = (t k).rem - 1 := congrArg State.rem hview
      _ = n + 1 - (k + 1) := by omega

/-- Settles O33: the phase goes on by induction on the cycles, and its last cycle has one cycle left. -/
theorem phaseTimerIsExact : Obligations.PhaseTimerIsExact := by
  intro t n ht hf hrem hr
  have hgo {k : Nat} (hk : k ≤ n) := phase_goes_on ht hf hrem hr hk
  obtain ⟨hfsm, hop, hleft⟩ := hgo le_rfl
  have hone : (t n).rem = 1 := by omega
  refine ⟨fun k hk => ?_, fun k hk => ?_, fun hhigh => ?_, fun hlow hpulses => ?_⟩
  · obtain ⟨hfsm, -, hleft⟩ := hgo hk
    exact ⟨hfsm, hleft⟩
  · obtain ⟨hfsm, -, hleft⟩ := hgo hk.le
    have hview := counts_of_step (ht k) (hr k hk.le) (hfsm ▸ hf) (by omega)
    exact ⟨(congrArg (·.out.lreq) hview :), (congrArg (·.out.completed) hview :)⟩
  · exact high_expires (ht n) (hr n le_rfl) (hfsm.trans hhigh) hone
  · exact low_expires (ht n) (hr n le_rfl) (hfsm.trans hlow) (hop ▸ hpulses) hone

end Sys2Proof.Machine

/-! ## EMIT_SYMBOL is EMIT_PULSE of its ratio -/

namespace Sys2Proof.Machine

/-- Settles O35: the rows of R140's table evaluate to their values, and code 3 is decoded from its encoding. -/
theorem pulseRatios : Obligations.PulseRatios :=
  ⟨rfl, rfl, rfl, rfl, decodeOfEncode (.emitSymbol 3#2), rfl, rfl, rfl, rfl, rfl, rfl⟩

/-- EMIT_SYMBOL counted as EMIT_PULSE: all that R142 lets two runs differ in. -/
def OpKind.asPulse : OpKind → OpKind
  | .none => .none
  | .openCmd => .openCmd
  | .closeCmd => .closeCmd
  | .setLine => .setLine
  | .emitPulse => .emitPulse
  | .emitSymbol => .emitPulse
  | .transmit => .transmit

/-- The state with an EMIT_SYMBOL in st.op counted as an EMIT_PULSE. -/
def State.asPulse (s : State) : State := { s with op := s.op.asPulse }

section
variable (s : State)

@[simp] theorem asPulse_cfg : s.asPulse.cfg = s.cfg := rfl
@[simp] theorem asPulse_isOpen : s.asPulse.isOpen = s.isOpen := rfl
@[simp] theorem asPulse_fsm : s.asPulse.fsm = s.fsm := rfl
@[simp] theorem asPulse_lineSel : s.asPulse.lineSel = s.lineSel := rfl
@[simp] theorem asPulse_pulseLen : s.asPulse.pulseLen = s.pulseLen := rfl
@[simp] theorem asPulse_op : s.asPulse.op = s.op.asPulse := rfl

@[simp] theorem asPulse_asPulse : s.asPulse.asPulse = s.asPulse := by
  have hop : s.op.asPulse.asPulse = s.op.asPulse := by cases s.op <;> rfl
  rw [State.asPulse, asPulse_op, hop]
  rfl

/-! ### Part 2 does not tell the two commands apart -/

theorem onExpire_asPulse : onExpire s.asPulse = (onExpire s).asPulse := by
  have hadvance : advance s.asPulse = (advance s).asPulse := by
    rw [advance, advance, apply_ite State.asPulse]
    rfl
  have hdone : pulseDone s.asPulse = (pulseDone s).asPulse := by
    simp only [pulseDone, asPulse_op]
    cases s.op
    case transmit => exact hadvance
    all_goals rfl
  rw [onExpire, onExpire, hdone, apply_ite State.asPulse]
  rfl

theorem onResponse_asPulse (resp : Resp) : onResponse resp s.asPulse = (onResponse resp s).asPulse := by
  have hfirst : firstAction s.op.asPulse s.asPulse = (firstAction s.op s).asPulse := by
    cases s.op <;> rfl
  cases resp
  case none => rfl
  all_goals
    simp only [onResponse, onOk, onErr, asPulse_fsm, asPulse_op, hfirst]
    cases s.fsm <;> rfl

theorem sequencer_asPulse (resp : Resp) : sequencer resp s.asPulse = (sequencer resp s).asPulse := by
  have hcount : countDown s.asPulse = (countDown s).asPulse := by
    simp only [countDown, apply_ite State.asPulse, ← onExpire_asPulse]
    rfl
  simp only [sequencer, asPulse_fsm, onResponse_asPulse, hcount, apply_ite State.asPulse]

theorem beforeBus_asPulse (resp : Resp) : s.asPulse.beforeBus resp = (s.beforeBus resp).asPulse :=
  sequencer_asPulse s.ticked resp

/-! ### Part 3 does not tell them apart -/

/-- An accepted command does not read st.op: it ends at once and leaves it, or sets it. -/
theorem acceptCommand_asPulse (i : Instr) : (acceptCommand i s.asPulse).asPulse = (acceptCommand i s).asPulse := by
  rcases acceptCommand_cases i s with ⟨r, hends, e⟩ | ⟨rfl, ho, hpin, hpl, -⟩ | ⟨rfl, ho, -⟩ |
    ⟨ho, op, v, h, l, frame, hs, -⟩
  · rw [e, acceptCommand_of_endsAtOnce (s := s.asPulse) hends]
    exact asPulse_asPulse (complete r (acceptClear s))
  · simp only [acceptCommand, openAccept, acceptClear_isOpen, acceptClear_lineSel, acceptClear_pulseLen, asPulse_isOpen,
      asPulse_lineSel, asPulse_pulseLen, ho, hpin, hpl]
    rfl
  · simp only [acceptCommand, closeAccept, acceptClear_isOpen, asPulse_isOpen, ho]
    rfl
  · rw [acceptCommand_of_starts hs ho, acceptCommand_of_starts (s := s.asPulse) hs ho]
    rfl

theorem acceptWord_asPulse (w : Word) : (acceptWord w s.asPulse).asPulse = (acceptWord w s).asPulse := by
  unfold acceptWord
  cases commandOf w with
  | none => exact asPulse_asPulse (complete .illegalOp (acceptClear s))
  | some i => exact acceptCommand_asPulse s i

theorem writeState_asPulse (r : Reg) (w : Word) :
    (writeState r w s.asPulse).asPulse = (writeState r w s).asPulse := by
  have hstore (r : Reg) : (storeReg r w s.asPulse).asPulse = (storeReg r w s).asPulse := by
    have hpush : storeReg r w s.asPulse = (storeReg r w s).asPulse := by cases r <;> rfl
    rw [hpush, asPulse_asPulse]
  cases r
  case cmd =>
    have haccept (a : State) (ha : a.fsm = .idle) : writeState .cmd w a = acceptWord w a := if_pos ha
    have hreject (a : State) (ha : a.fsm ≠ .idle) : writeState .cmd w a = reject a := if_neg ha
    by_cases hf : s.fsm = .idle
    · rw [haccept s hf, haccept s.asPulse hf, acceptWord_asPulse]
    · rw [hreject s hf, hreject s.asPulse hf]
      exact asPulse_asPulse (reject s)
  case status => exact asPulse_asPulse (writeStatus w s)
  all_goals exact hstore _

/-- No register reads st.op (10_state.md R44). -/
theorem readReg_asPulse (r : Reg) : s.asPulse.readReg r = s.readReg r := by
  cases r <;> rfl

theorem busState_asPulse (pre : State) (bus : Option Access) :
    (busState pre.asPulse bus s.asPulse).asPulse = (busState pre bus s).asPulse := by
  match bus with
  | none => exact asPulse_asPulse s
  | some (.read width addr) =>
    simp only [busState, asPulse_cfg, readReg_asPulse]
    cases target s.cfg width addr with
    | outside => exact asPulse_asPulse s
    | bad => exact asPulse_asPulse (busError (.read width addr) s)
    | reg r => exact asPulse_asPulse { s with out := { s.out with rdata := some (pre.readReg r) } }
  | some (.write width addr w) =>
    simp only [busState, asPulse_cfg]
    cases target s.cfg width addr with
    | outside => exact asPulse_asPulse s
    | bad => exact asPulse_asPulse (busError (.write width addr w) s)
    | reg r => exact writeState_asPulse s r w

/-! ### A run does not tell them apart -/

/-- A cycle does not tell the two commands apart, whatever its inputs. -/
theorem after_asPulse : s.asPulse.after.asPulse = s.after.asPulse := by
  by_cases hr : s.input.rst = true
  · rw [after_of_reset hr, after_of_reset (s := s.asPulse) hr]
    rfl
  have hr : s.input.rst = false := by simpa using hr
  let pre : State := { s with inputs := s.inputs.tail }
  have hafter : s.after = busState pre s.input.bus (s.beforeBus s.input.resp) := after_of_running hr
  have hafter' : s.asPulse.after = busState pre.asPulse s.input.bus (s.beforeBus s.input.resp).asPulse :=
    beforeBus_asPulse s s.input.resp ▸ after_of_running (s := s.asPulse) hr
  rw [hafter, hafter', busState_asPulse]

end

/-- Runs that are alike in one cycle are alike in the next. -/
theorem trace_asPulse_succ {t t' : Nat → State} (ht : Trace t) (ht' : Trace t') {k : Nat}
    (h : (t k).asPulse = (t' k).asPulse) : (t (k + 1)).asPulse = (t' (k + 1)).asPulse :=
  calc (t (k + 1)).asPulse
    _ = (t k).asPulse.after.asPulse := by rw [trace_succ ht, after_asPulse]
    _ = (t' k).asPulse.after.asPulse := by rw [h]
    _ = (t' (k + 1)).asPulse := by rw [trace_succ ht', after_asPulse]

/-! ### The accept of the two commands -/

/-- EMIT_SYMBOL of a symbol is accepted as EMIT_PULSE of its ratio is, whose units are in their domain (42_symbol.md
R142). -/
theorem acceptCommand_emitSymbol {sym : BitVec 2} {y : Symbol} (hy : symbolOf sym = some y) (s : State) :
    (acceptCommand (.emitSymbol sym) s).asPulse =
      (acceptCommand (.emitPulse (ratio y).1 (ratio y).2) s).asPulse := by
  have hunits : (ratio y).1 ≠ 0#8 ∧ (ratio y).2 ≠ 0#8 := by cases y <;> decide
  obtain ⟨hh, hl⟩ := hunits
  cases ho : s.isOpen with
  | false =>
    have hsymbol : endsAtOnce (.emitSymbol sym) s .notOpen := .inr ⟨rfl, by simp [hy], ho⟩
    have hpulse : endsAtOnce (.emitPulse (ratio y).1 (ratio y).2) s .notOpen := .inr ⟨rfl, hh, hl, ho⟩
    rw [acceptCommand_of_endsAtOnce hsymbol, acceptCommand_of_endsAtOnce hpulse]
  | true =>
    have hsymbol : Starts (.emitSymbol sym) s .emitSymbol s.v (ratio y).1 (ratio y).2 s.frame :=
      ⟨rfl, rfl, rfl, y, hy, rfl, rfl⟩
    have hpulse : Starts (.emitPulse (ratio y).1 (ratio y).2) s .emitPulse s.v (ratio y).1 (ratio y).2 s.frame :=
      ⟨rfl, rfl, rfl, rfl, rfl, hh, hl⟩
    rw [acceptCommand_of_starts hsymbol ho, acceptCommand_of_starts hpulse ho]
    simp only [beginCommand, acceptClear_cfg]
    cases s.cfg.backend <;> rfl

/-- A write of either command's word has the same effect: both are accepted, or both rejected (60_exceptions.md R177). -/
theorem writeState_emitSymbol {sym : BitVec 2} {y : Symbol} (hy : symbolOf sym = some y) (s : State) :
    (writeState .cmd (encode (.emitSymbol sym)) s).asPulse =
      (writeState .cmd (encode (.emitPulse (ratio y).1 (ratio y).2)) s).asPulse := by
  simp only [writeState, acceptWord_eq (commandOf_encode _), apply_ite State.asPulse, acceptCommand_emitSymbol hy]

/-- Settles O55: the two runs are alike after their first cycle, and every cycle keeps them so. -/
theorem symbolIsItsPulse : Obligations.SymbolIsItsPulse := by
  intro t t' s resp sym y ht ht' hy h0 h0' k
  have hone {u : Nat → State} (hu : Trace u) {w : Word}
      (hw : u 0 = s.withInput (.of resp (some (writeOf s.cfg .cmd w)))) :
      u 1 = writeState .cmd w (s.beforeBus resp) := by
    rw [trace_succ hu, ← step_next_iff, hw, step_write]
  have halike : (t (k + 1)).asPulse = (t' (k + 1)).asPulse := by
    induction k with
    | zero => rw [hone ht h0, hone ht' h0', writeState_emitSymbol hy]
    | succ k ih => exact trace_asPulse_succ ht ht' ih
  exact congrArg (fun a : State => { a with op := .none }) halike

end Sys2Proof.Machine

/-! ## The rendering of a code -/

namespace Sys2Proof.Machine

/-- The bits sent first are the code's high part: the first `k` bits of a frame, read as base 2, are what is left of the
code without its low `24 - k` bits (43_frame.md R150). -/
theorem firstBits_eq (frame : BitVec 24) {k : Nat} (hk : k ≤ 24) :
    (List.range k).foldl (fun acc i => 2 * acc + (bitAt frame i).toNat) 0 = frame.toNat / 2 ^ (24 - k) := by
  induction k with
  | zero => exact (Nat.div_eq_of_lt frame.isLt).symm
  | succ k ih =>
    have hexp : 24 - k = 23 - k + 1 := by omega
    have hbit : (bitAt frame k).toNat = frame.toNat / 2 ^ (23 - k) % 2 := by
      rw [bitAt, BitVec.getLsbD, Nat.toNat_testBit]
    have hhalf : frame.toNat / 2 ^ (24 - k) = frame.toNat / 2 ^ (23 - k) / 2 := by
      rw [hexp, Nat.pow_succ, Nat.div_div_eq_div_mul]
    rw [List.range_succ, List.foldl_append, ih (by omega), List.foldl_cons, List.foldl_nil, hbit, hhalf,
      Nat.add_sub_add_right 23 1 k]
    exact Nat.div_add_mod _ 2

/-- Settles O36: all 24 bits leave nothing of the code out, and the index 24 is the one with no bit. -/
theorem renderingIsTheCode : Obligations.RenderingIsTheCode := by
  intro frame
  refine ⟨by simpa using firstBits_eq frame le_rfl, if_pos rfl, fun i hi => if_neg hi.ne, fun _ _ => rfl⟩

/-- Settles O37: both are bounds on CODE, as a signed number and as an unsigned one. -/
theorem rangeCheckIsTheHighByte : Obligations.RangeCheckIsTheHighByte := by
  intro w
  have hbyte : codeInRange w = true ↔ w.extractLsb' 24 8 = 0#8 := by
    have := w.isLt
    rw [codeInRange_iff, field_eq_iff, BitVec.toNat_ofNat]
    omega
  exact ⟨codeInRange_iff_toInt.symm.trans hbyte, hbyte⟩

end Sys2Proof.Machine

/-! ## The SET requests of a transmission -/

namespace Sys2Proof.Machine

/-- The wait that a SET(v) of a pulse leads to (41_pulse.md R122). -/
def waitForSet (v : Level) : Fsm := if v then .wSetH else .wSetL

/-- A SET that part 2 issues for another command than SET_LINE is one of a pulse (41_pulse.md R122). -/
theorem SeqStep.waits_for_pulse_set {resp : Resp} {s t : State} {v : Level} (hst : SeqStep resp s t)
    (hq : s.out.lreq = none) (hset : t.out.lreq = some (.setLine v)) (hop : t.op ≠ .setLine) :
    t.fsm = waitForSet v := by
  cases hst
  case foundForSet hs => exact absurd hs hop
  case foundForPulse | nextPulse | highEnds => cases hset; rfl
  all_goals simp [hq] at hset

/-- The accept of another command than SET_LINE issues no SET but the SET(1) of a pulse (40_line.md R106). -/
theorem AcceptStep.waits_for_pulse_set {cmd : Option Instr} {s t : State} {v : Level} (hst : AcceptStep cmd s t)
    (hq : s.out.lreq = none) (hset : t.out.lreq = some (.setLine v)) (hop : t.op ≠ .setLine) :
    t.fsm = waitForSet v := by
  cases hst
  case setRequested => exact absurd rfl hop
  case pulseStarted => cases hset; rfl
  all_goals simp [hq] at hset

/-- A wait for the answer to a pulse's SET: the pulse in flight, and the number of that SET (43_frame.md R151). -/
theorem State.Inv.set_of_pulse {s : State} (h : s.Inv) {v : Level} (hf : s.fsm = waitForSet v) :
    s.pulsing ∧ s.setcnt.toNat = 2 * s.symbolNumber + if v then 1 else 2 := by
  have hfits := h.fsm
  cases v <;> simp only [State.fsmFits, hf, waitForSet, Bool.false_eq_true, if_true, if_false] at hfits ⊢
  · obtain ⟨hp, -, hcnt, -⟩ := hfits
    exact ⟨hp, hcnt⟩
  · obtain ⟨hp, -, hcnt⟩ := hfits
    exact ⟨hp, hcnt⟩

/-- Settles O51: the SET leads to the wait for its answer, where the invariant gives its number and its units. -/
theorem setNumberNamesTheSymbol : Obligations.SetNumberNamesTheSymbol := by
  intro s t v h hstep hset hop
  have ht : t.Inv := invariantKept s t h hstep
  have hne : t.op ≠ .setLine := by simp [hop]
  have hf : t.fsm = waitForSet v := by
    by_cases hr : s.input.rst = true
    · obtain rfl := eq_resetCycle hstep hr
      simp [resetCycle, resetOutputs_lreq] at hset
    rcases running_cases hstep (by simpa using hr) with ⟨w, -, hidle, hacc⟩ | ⟨-, hview⟩
    · exact hacc.waits_for_pulse_set (beforeBus_lreq_of_idle hidle) hset hne
    · obtain ⟨-, -, -, -, -, -, -, hfsm, hlreq, -⟩ := view_eq hview
      have hop' : t.op = (s.beforeBus s.input.resp).op := (congrArg State.op hview :)
      rw [hfsm]
      exact (seqStep_beforeBus s.input.resp s).waits_for_pulse_set rfl (hlreq ▸ hset) (hop' ▸ hne)
  obtain ⟨⟨-, -, ⟨-, -, -, hunits⟩, -⟩, hcnt⟩ := ht.set_of_pulse hf
  exact ⟨hf, hcnt, ht.regs.symbolNumber_le, hunits hop⟩

end Sys2Proof.Machine

/-! ## A command in flight and the hosts -/

namespace Sys2Proof.Machine

section
variable (s : State)

/-- The end of a phase reads nothing a host can write (43_frame.md R156). -/
theorem onExpire_commandView : (onExpire s.commandView).commandView = (onExpire s).commandView := by
  have hadvance : (advance s.commandView).commandView = (advance s).commandView := by
    rw [advance, advance, apply_ite State.commandView, apply_ite State.commandView]
    rfl
  have hop : s.commandView.op = s.op := rfl
  have hfsm : s.commandView.fsm = s.fsm := rfl
  simp only [onExpire, pulseDone, hop, hfsm, apply_ite State.commandView]
  cases s.op
  case transmit => rw [hadvance]; rfl
  all_goals rfl

/-- A line response reads nothing a host can write (43_frame.md R156). -/
theorem onResponse_commandView (resp : Resp) :
    (onResponse resp s.commandView).commandView = (onResponse resp s).commandView := by
  have hfirst : (firstAction s.op s.commandView).commandView = (firstAction s.op s).commandView := by
    rw [firstAction, firstAction, apply_ite State.commandView, apply_ite State.commandView]
    rfl
  have hop : s.commandView.op = s.op := rfl
  have hfsm : s.commandView.fsm = s.fsm := rfl
  cases resp with
  | none => rfl
  | ok =>
    simp only [onResponse, onOk, hop, hfsm]
    cases s.fsm
    case wLookup => exact hfirst
    all_goals rfl
  | err =>
    simp only [onResponse, onErr, hfsm]
    cases s.fsm <;> rfl

/-- Part 2 of a cycle reads nothing a host can write (43_frame.md R156). -/
theorem sequencer_commandView (resp : Resp) :
    (sequencer resp s.commandView).commandView = (sequencer resp s).commandView := by
  have hfsm : s.commandView.fsm = s.fsm := rfl
  have hcount : (countDown s.commandView).commandView = (countDown s).commandView := by
    have hexpire := onExpire_commandView { s with rem := s.rem - 1 }
    simp only [countDown, apply_ite State.commandView, ← hexpire]
    rfl
  simp only [sequencer, hfsm, apply_ite State.commandView, onResponse_commandView, hcount]
  rfl

theorem beforeBus_commandView (resp : Resp) :
    (s.commandView.beforeBus resp).commandView = (s.beforeBus resp).commandView :=
  sequencer_commandView s.ticked resp

/-- A reset leaves nothing to view but the parameters and the outputs, and R200's outputs are all the host's. -/
theorem resetCycle_commandView (bus : Option Access) :
    (resetCycle bus s).commandView = (State.resetWith s.cfg []).commandView := by
  have hout : { resetOutputs s.cfg bus with rdata := none, busErr := false } = Outputs.quiet := by
    match bus with
    | none => rfl
    | some (.write _ _ _) => rfl
    | some (.read width addr) => simp only [resetOutputs]; split <;> rfl
  exact congrArg (fun o => { (State.resetWith s.cfg []).commandView with out := o }) hout

end

/-- A command in flight leaves the sequencer IDLE only by a completion (60_exceptions.md R170). -/
theorem SeqStep.completes {resp : Resp} {s t : State} (hst : SeqStep resp s t) (hbusy : s.fsm ≠ .idle)
    (hidle : t.fsm = .idle) : t.out.completed = true := by
  cases hst
  case opened | released | releaseFails | lineSet | fails | ends => rfl
  case foundForSet | foundForPulse | highSet | lowSet | highEnds | nextPulse => cases hidle
  all_goals exact absurd hidle hbusy

/-- A cycle in which the command in flight does not complete accepts nothing. -/
theorem busy_beforeBus {s t : State} (h : step s = .next t) (hr : s.input.rst = false) (hbusy : s.fsm ≠ .idle)
    (hc : t.out.completed = false) : (s.beforeBus s.input.resp).fsm ≠ .idle := fun hidle =>
  absurd (completed_of_beforeBus h hr ((seqStep_beforeBus s.input.resp s).completes hbusy hidle)) (by simp [hc])

/-- Two blocks that look alike but for what a host can write still do so after a cycle with the same reset and response in
which the command in flight does not complete (43_frame.md R156). -/
theorem commandView_step {s s' t t' : State} (h : step s = .next t) (h' : step s' = .next t')
    (hview : s.commandView = s'.commandView) (hr : s.input.rst = s'.input.rst) (hresp : s.input.resp = s'.input.resp)
    (hbusy : s.fsm ≠ .idle) (hc : t.out.completed = false) : t.commandView = t'.commandView := by
  cases hrst : s.input.rst with
  | true =>
    have hcfg : s.cfg = s'.cfg := (congrArg State.cfg hview :)
    rw [eq_resetCycle h hrst, eq_resetCycle h' (hr ▸ hrst), resetCycle_commandView, resetCycle_commandView, hcfg]
  | false =>
    have hm : (s.beforeBus s.input.resp).commandView = (s'.beforeBus s'.input.resp).commandView := by
      rw [← beforeBus_commandView, hview, hresp, beforeBus_commandView]
    have hmbusy := busy_beforeBus h hrst hbusy hc
    have hfsm : (s.beforeBus s.input.resp).fsm = (s'.beforeBus s'.input.resp).fsm := (congrArg State.fsm hm :)
    rw [commandView_of_busy h hrst hmbusy, hm, commandView_of_busy h' (hr ▸ hrst) (hfsm ▸ hmbusy)]

/-- Settles O54, by induction on the cycles. -/
theorem hostsCannotDisturbACommand : Obligations.HostsCannotDisturbACommand := by
  intro t t' n ht ht' h0 hin hrun k hk
  induction k with
  | zero => exact h0
  | succ k ih =>
    obtain ⟨hr, hresp⟩ := hin k hk
    obtain ⟨hbusy, hc⟩ := hrun k hk
    exact commandView_step (ht k) (ht' k) (ih (by omega)) hr hresp hbusy hc

end Sys2Proof.Machine

/-! ## An idle block -/

namespace Sys2Proof.Machine

/-- A cycle that accepts nothing leaves part 2's state but for what a host can write or read. -/
theorem commandView_of_no_accept {s t : State} (h : step s = .next t) (hr : s.input.rst = false) (hno : ¬ s.accepts) :
    t.commandView = (s.beforeBus s.input.resp).commandView := by
  rcases running_cases h hr with ⟨w, hw, hidle, -⟩ | ⟨-, hview⟩
  · exact absurd ⟨by simp [hw], hidle⟩ hno
  · exact hview

/-- What a cycle of an idle block that accepts nothing keeps: the command view without the counters of part 1 and the
outputs of the last cycle (60_exceptions.md R187). -/
def State.restView (s : State) : State := { s.commandView.withClock 0#32 0 0 with out := .quiet }

/-- A cycle of an idle block in which no host writes CMD moves on the counters and changes only what a host can write
(60_exceptions.md R187). -/
theorem commandView_of_idle {s t : State} (h : step s = .next t) (hr : s.input.rst = false) (hf : s.fsm = .idle)
    (hcmd : cmdWritten s.cfg s.input.bus = none) : t.commandView = s.ticked.commandView := by
  rw [← beforeBus_of_idle s.input.resp hf]
  exact commandView_of_no_accept h hr fun hacc => hacc.1 hcmd

/-- Settles O59, by induction on the cycles. -/
theorem idleBlockStaysSilent : Obligations.IdleBlockStaysSilent := by
  intro t n ht hf hin
  have hrest {k : Nat} (hk : k ≤ n) : (t k).restView = (t 0).restView := by
    induction k with
    | zero => rfl
    | succ k ih =>
      have hsame := ih (by omega)
      obtain ⟨hr, hcmd⟩ := hin k hk
      have hview := commandView_of_idle (ht k) hr ((congrArg State.fsm hsame).trans hf) hcmd
      exact (congrArg (fun v : State => { v.withClock 0#32 0 0 with out := .quiet }) hview).trans hsame
  have hend := hrest le_rfl
  refine ⟨(congrArg State.fsm hend).trans hf, fun k hk => ?_, (congrArg State.err hend :),
    (congrArg State.errInfo hend :), (congrArg State.rep hend :), (congrArg State.symIdx hend :),
    (congrArg State.phase hend :), (congrArg State.setcnt hend :), (congrArg State.isOpen hend :),
    (congrArg State.lineValid hend :), (congrArg State.lineLevel hend :), (congrArg State.frame hend :),
    (congrArg State.activePl hend :), (congrArg State.activeLine hend :)⟩
  obtain ⟨hr, hcmd⟩ := hin k hk
  have hview := commandView_of_idle (ht k) hr ((congrArg State.fsm (hrest hk.le)).trans hf) hcmd
  exact ⟨(congrArg (·.out.lreq) hview :), (congrArg (·.out.completed) hview :)⟩

end Sys2Proof.Machine

/-! ## How long a command takes -/

namespace Sys2Proof.Machine

/-! ### What is left of a command in flight -/

/-- How far the command in flight has come: the fields of the state that say which phases, answers and SET requests are
still to come. -/
structure Progress where
  fsm : Fsm
  op : OpKind
  rep : BitVec 4
  symIdx : BitVec 5
  h : BitVec 8
  l : BitVec 8
  /-- the cycles left of a timed phase (10_state.md R47) -/
  rem : Nat
  /-- the cycles of one pulse-length unit (41_pulse.md R120) -/
  unit : Nat
  /-- the SET requests issued (10_state.md R40) -/
  sets : Nat

def State.progress (s : State) : Progress where
  fsm := s.fsm
  op := s.op
  rep := s.rep
  symIdx := s.symIdx
  h := s.h
  l := s.l
  rem := s.rem
  unit := s.activePl.toNat * s.cfg.clkPerUs
  sets := s.setcnt.toNat

/-- The units of the symbols after the one in flight: of a TRANSMIT 128 in each later repetition, and 4 for each later bit
and 32 for SYNC in this one (42_symbol.md R140, 43_frame.md R150); none of a command that sends one pulse. -/
def Progress.unitsAfter (p : Progress) : Nat :=
  if p.op = .transmit then
    128 * (9 - p.rep.toNat) + if p.symIdx.toNat = 24 then 0 else 4 * (23 - p.symIdx.toNat) + 32
  else 0

/-- The SET requests of the symbols after the one in flight: two for each of a TRANSMIT's 250 (43_frame.md R151). -/
def Progress.setsAfter (p : Progress) : Nat :=
  if p.op = .transmit then 2 * (249 - (25 * p.rep.toNat + p.symIdx.toNat)) else 0

/-- The units of the pulse in flight and of the symbols after it. -/
def Progress.unitsLeft (p : Progress) : Nat := p.h.toNat + p.l.toNat + p.unitsAfter

/-- The cycles the command in flight has still to spend in timed phases if every answer is OK. -/
def Progress.timeLeft (p : Progress) : Nat :=
  match p.fsm with
  | .idle | .wOpen | .wRelease | .wSetV => 0
  | .wLookup => if p.op = .setLine then 0 else p.unitsLeft * p.unit
  | .wSetH => p.unitsLeft * p.unit
  | .tHigh => p.rem + (p.l.toNat + p.unitsAfter) * p.unit
  | .wSetL => (p.l.toNat + p.unitsAfter) * p.unit
  | .tLow => p.rem + p.unitsAfter * p.unit

/-- The SET requests the command in flight has still to issue if every answer is OK: two for each pulse (43_frame.md R151),
one for SET_LINE. -/
def Progress.setsLeft (p : Progress) : Nat :=
  match p.fsm with
  | .idle | .wOpen | .wRelease | .wSetV => 0
  | .wLookup => if p.op = .setLine then 1 else p.setsAfter + 2
  | .wSetH | .tHigh => p.setsAfter + 1
  | .wSetL | .tLow => p.setsAfter

/-- The answers the command in flight has still to wait for if each is OK: that of the outstanding request, and those of
the SET requests to come. -/
def Progress.answersLeft (p : Progress) : Nat := p.setsLeft + if p.fsm.waiting then 1 else 0

/-- The command in flight goes on from `p` to `p'` in a cycle with response `resp`: a cycle that times a phase takes one off
the time left, an OK takes one off the answers left, each SET issued is one of those left, and an unanswered wait goes
on. -/
structure Progress.GoesOn (resp : Resp) (p p' : Progress) : Prop where
  time : p.timeLeft = p'.timeLeft + if p.fsm.waiting then 0 else 1
  sets : p.sets + p.setsLeft = p'.sets + p'.setsLeft
  answers : p.answersLeft = p'.answersLeft + if p.fsm.waiting ∧ resp = .ok then 1 else 0
  waits : p.fsm.waiting = true → resp = .none → p'.fsm = p.fsm

/-! ### The steps of a command in flight -/

section
variable {p : Progress}

/-- A wait goes on. -/
theorem Progress.goesOn_unanswered (hf : p.fsm.waiting = true) : p.GoesOn .none p := by
  constructor <;> simp [hf]

/-- An OK ends OPEN, CLOSE and SET_LINE (40_line.md R107 to R109). -/
theorem Progress.goesOn_ended (hf : p.fsm = .wOpen ∨ p.fsm = .wRelease ∨ p.fsm = .wSetV) :
    p.GoesOn .ok { p with fsm := .idle } := by
  rcases hf with hf | hf | hf <;> constructor <;> simp [timeLeft, setsLeft, answersLeft, hf, Fsm.waiting]

/-- An OK to the LOOKUP of SET_LINE starts its SET (40_line.md R106). -/
theorem Progress.goesOn_foundForSet (hf : p.fsm = .wLookup) (hop : p.op = .setLine) :
    p.GoesOn .ok { p with fsm := .wSetV, sets := p.sets + 1 } := by
  constructor <;> simp [timeLeft, setsLeft, answersLeft, hf, hop, Fsm.waiting]

/-- An OK to the LOOKUP of another command starts its first pulse (40_line.md R106). -/
theorem Progress.goesOn_foundForPulse (hf : p.fsm = .wLookup) (hop : p.op ≠ .setLine) :
    p.GoesOn .ok { p with fsm := .wSetH, sets := p.sets + 1 } := by
  constructor <;> simp [timeLeft, setsLeft, answersLeft, unitsLeft, unitsAfter, setsAfter, hf, hop, Fsm.waiting]
  omega

/-- An OK to SET(1) starts the high phase (41_pulse.md R122). -/
theorem Progress.goesOn_highSet (hf : p.fsm = .wSetH) :
    p.GoesOn .ok { p with fsm := .tHigh, rem := p.h.toNat * p.unit } := by
  constructor <;> simp [timeLeft, setsLeft, answersLeft, unitsLeft, unitsAfter, setsAfter, hf, Fsm.waiting, Nat.add_mul,
    Nat.add_assoc]

/-- An OK to SET(0) starts the low phase (41_pulse.md R122). -/
theorem Progress.goesOn_lowSet (hf : p.fsm = .wSetL) :
    p.GoesOn .ok { p with fsm := .tLow, rem := p.l.toNat * p.unit } := by
  constructor <;> simp [timeLeft, setsLeft, answersLeft, unitsAfter, setsAfter, hf, Fsm.waiting, Nat.add_mul]

/-- A phase goes on for at least one more cycle (41_pulse.md R120). -/
theorem Progress.goesOn_counts {resp : Resp} (hf : p.fsm.timing = true) (hrem : 1 ≤ p.rem) :
    p.GoesOn resp { p with rem := p.rem - 1 } := by
  rcases Fsm.timing_iff.mp hf with hf | hf <;> constructor <;>
    simp [timeLeft, setsLeft, answersLeft, unitsAfter, setsAfter, hf, Fsm.waiting] <;> omega

/-- The end of a high phase starts the pulse's SET(0) (41_pulse.md R122). -/
theorem Progress.goesOn_highEnds {resp : Resp} (hf : p.fsm = .tHigh) (hrem : p.rem = 1) :
    p.GoesOn resp { p with fsm := .wSetL, rem := 0, sets := p.sets + 1 } := by
  constructor <;> simp [timeLeft, setsLeft, answersLeft, unitsAfter, setsAfter, hf, hrem, Fsm.waiting] <;> omega

/-- The pulse in flight is the command's last (41_pulse.md R122, 43_frame.md R154). -/
def Progress.last (p : Progress) : Prop :=
  p.op = .emitPulse ∨ p.op = .emitSymbol ∨ (p.op = .transmit ∧ p.symIdx = 24#5 ∧ p.rep = 9#4)

theorem Progress.last.nothing_after (h : p.last) : p.unitsAfter = 0 ∧ p.setsAfter = 0 := by
  rcases h with hop | hop | ⟨hop, hidx, hrep⟩ <;> simp [unitsAfter, setsAfter, *]

/-- The end of the last low phase ends the command. -/
theorem Progress.goesOn_ends {resp : Resp} (hf : p.fsm = .tLow) (hrem : p.rem = 1) (hlast : p.last) :
    p.GoesOn resp { p with fsm := .idle, rem := 0 } := by
  obtain ⟨hunits, hsets⟩ := hlast.nothing_after
  constructor <;> simp [timeLeft, setsLeft, answersLeft, hunits, hsets, hf, hrem, Fsm.waiting]

/-- `n` is at the symbol after that of `p` (43_frame.md R154). -/
def Progress.isNext (p n : Progress) : Prop :=
  p.op = .transmit ∧ n.op = .transmit ∧
  ((p.symIdx.toNat = 24 ∧ p.rep.toNat < 9 ∧ n.symIdx.toNat = 0 ∧ n.rep.toNat = p.rep.toNat + 1) ∨
   (p.symIdx.toNat < 24 ∧ n.symIdx.toNat = p.symIdx.toNat + 1 ∧ n.rep.toNat = p.rep.toNat ∧ p.rep.toNat ≤ 9)) ∧
  n.h.toNat + n.l.toNat = if n.symIdx.toNat = 24 then 32 else 4

/-- What comes after a symbol is the next one and what comes after that. -/
theorem Progress.isNext.after {n : Progress} (h : p.isNext n) :
    p.unitsAfter = n.unitsLeft ∧ p.setsAfter = n.setsAfter + 2 := by
  obtain ⟨hop, hnop, hplace, hunits⟩ := h
  rw [unitsLeft, hunits, unitsAfter, unitsAfter, setsAfter, setsAfter]
  simp only [hop, hnop, if_true]
  rcases hplace with ⟨hidx, hrep, hnidx, hnrep⟩ | ⟨hidx, hnidx, hnrep, hrep⟩ <;> rw [hnidx, hnrep]
  · rw [if_pos hidx, if_neg (by omega), if_neg (by omega)]
    omega
  · rw [if_neg (by omega)]
    split_ifs <;> omega

/-- The end of another low phase starts the next symbol's pulse. -/
theorem Progress.goesOn_nextPulse {resp : Resp} {n : Progress} (hf : p.fsm = .tLow) (hrem : p.rem = 1)
    (hnext : p.isNext n) (hnf : n.fsm = .wSetH) (hunit : n.unit = p.unit) (hsets : n.sets = p.sets + 1) :
    p.GoesOn resp n := by
  obtain ⟨hunits, hafter⟩ := hnext.after
  constructor <;> simp [timeLeft, setsLeft, answersLeft, hunits, hafter, hf, hrem, hnf, hunit, hsets, Fsm.waiting] <;>
    omega

end

/-! ### Part 2 of a cycle, as a step of the command in flight -/

/-- What part 1 moves on is no progress. -/
theorem ticked_progress (s : State) : s.ticked.progress = s.progress := by
  simp [State.progress]

/-- The answers in the waiting states (40_line.md R106 to R109, 41_pulse.md R122). -/
theorem goesOn_of_answer {s : State} (h : s.Inv) (hf : s.fsm.waiting = true) :
    s.progress.GoesOn .ok (onOk s).progress := by
  have hsucc := h.regs.setcnt_succ
  unfold onOk
  cases hfsm : s.fsm with
  | idle | tHigh | tLow => simp [hfsm, Fsm.waiting] at hf
  | wOpen => exact Progress.goesOn_ended (.inl hfsm)
  | wRelease => exact Progress.goesOn_ended (.inr (.inl hfsm))
  | wSetV => exact Progress.goesOn_ended (.inr (.inr hfsm))
  | wLookup =>
    by_cases hop : s.op = .setLine
    · have hm : (firstAction s.op s).progress = { s.progress with fsm := .wSetV, sets := s.progress.sets + 1 } := by
        simp [firstAction, hop, State.progress, hsucc]
      exact hm ▸ Progress.goesOn_foundForSet hfsm hop
    · have hm : (firstAction s.op s).progress = { s.progress with fsm := .wSetH, sets := s.progress.sets + 1 } := by
        simp [firstAction, hop, State.progress, hsucc]
      exact hm ▸ Progress.goesOn_foundForPulse hfsm hop
  | wSetH =>
    have hm : (highAnswered s).progress =
        { s.progress with fsm := .tHigh, rem := s.progress.h.toNat * s.progress.unit } := by
      simp [highAnswered, State.progress, Nat.mul_assoc]
    exact hm ▸ Progress.goesOn_highSet hfsm
  | wSetL =>
    have hm : (lowAnswered s).progress =
        { s.progress with fsm := .tLow, rem := s.progress.l.toNat * s.progress.unit } := by
      simp [lowAnswered, State.progress, Nat.mul_assoc]
    exact hm ▸ Progress.goesOn_lowSet hfsm

/-- The units of a symbol (42_symbol.md R140). -/
theorem ratio_symAt_units (frame : BitVec 24) (i : Nat) :
    (ratio (symAt frame i)).1.toNat + (ratio (symAt frame i)).2.toNat = if i = 24 then 32 else 4 := by
  unfold symAt
  split
  · rfl
  · split <;> rfl

/-- SYM_IDX and REP of the next symbol as numbers (43_frame.md R154). -/
theorem nextSymbol_place {s : State} (h : s.RegsInv) (hlast : ¬ (s.symIdx = 24#5 ∧ s.rep = 9#4)) :
    (s.symIdx.toNat = 24 ∧ s.rep.toNat < 9 ∧
      (nextSymbol s).symIdx.toNat = 0 ∧ (nextSymbol s).rep.toNat = s.rep.toNat + 1) ∨
    (s.symIdx.toNat < 24 ∧ (nextSymbol s).symIdx.toNat = s.symIdx.toNat + 1 ∧
      (nextSymbol s).rep.toNat = s.rep.toNat ∧ s.rep.toNat ≤ 9) := by
  have hrep := h.rep
  have hidx := h.symIdx
  by_cases hsync : s.symIdx = 24#5
  · have hmore : s.rep ≠ 9#4 := fun hr => hlast ⟨hsync, hr⟩
    rw [nextSymbol_symIdx, nextSymbol_rep, if_pos hsync, if_pos hsync, hsync]
    exact .inl ⟨rfl, by bv_omega, rfl, by bv_omega⟩
  · rw [nextSymbol_symIdx, nextSymbol_rep, if_neg hsync, if_neg hsync]
    exact .inr ⟨by bv_omega, by bv_omega, rfl, hrep⟩

/-- The next symbol of a TRANSMIT, as progress. -/
theorem startSymbol_isNext {s : State} (h : s.RegsInv) (hop : s.op = .transmit)
    (hlast : ¬ (s.symIdx = 24#5 ∧ s.rep = 9#4)) : s.progress.isNext (startSymbol (nextSymbol s)).progress :=
  ⟨hop, hop, nextSymbol_place h hlast, ratio_symAt_units s.frame (nextSymbol s).symIdx.toNat⟩

/-- The end of a low phase, in a state whose timer has run out (41_pulse.md R122, 43_frame.md R154). -/
theorem goesOn_of_pulseDone {s : State} (h : s.Inv) (hf : s.fsm = .tLow) (hrem : s.rem = 1) (resp : Resp) :
    s.progress.GoesOn resp (pulseDone { s with rem := 0 }).progress := by
  have hfits := h.fsm
  simp only [State.fsmFits, hf] at hfits
  obtain ⟨⟨-, hpulses, -, -⟩, -⟩ := hfits
  have hregs : { s with rem := 0 }.RegsInv := { h.regs with }
  by_cases hlast : s.progress.last
  · rw [pulseDone_of_last (s := { s with rem := 0 }) hlast]
    exact Progress.goesOn_ends hf hrem hlast
  · obtain ⟨hpulse, hsymbol, htransmit⟩ := not_or.mp hlast |>.imp_right not_or.mp
    have hop : s.op = .transmit := ((OpKind.pulses_iff.mp hpulses).resolve_left hpulse).resolve_left hsymbol
    have hmore : ¬ (s.symIdx = 24#5 ∧ s.rep = 9#4) := fun hend => htransmit ⟨hop, hend⟩
    rw [pulseDone_of_not_last (s := { s with rem := 0 }) hop hmore]
    exact Progress.goesOn_nextPulse hf hrem (startSymbol_isNext hregs hop hmore :) rfl rfl h.regs.setcnt_succ

/-- A timed phase has a cycle left (10_state.md R47). -/
theorem State.Inv.rem_pos {s : State} (h : s.Inv) (hf : s.fsm.timing = true) : 1 ≤ s.rem := by
  have hfits := h.fsm
  rcases Fsm.timing_iff.mp hf with hf | hf <;> simp only [State.fsmFits, hf] at hfits <;>
    obtain ⟨-, -, -, -, -, hrem, -⟩ := hfits <;> exact hrem

/-- A cycle of the phase timer (41_pulse.md R120, R122). -/
theorem goesOn_of_countDown {s : State} (h : s.Inv) (hf : s.fsm.timing = true) (resp : Resp) :
    s.progress.GoesOn resp (countDown s).progress := by
  have hpos := h.rem_pos hf
  by_cases hrem : s.rem = 1
  · have hm : countDown s = onExpire { s with rem := 0 } := by simp [countDown, hrem]
    rw [hm, onExpire]
    rcases Fsm.timing_iff.mp hf with hf | hf
    · have hsets : (highExpired { s with rem := 0 }).progress =
          { s.progress with fsm := .wSetL, rem := 0, sets := s.progress.sets + 1 } := by
        simp [highExpired, State.progress, h.regs.setcnt_succ]
      rw [if_pos hf, hsets]
      exact Progress.goesOn_highEnds hf hrem
    · rw [if_neg (by simp [hf])]
      exact goesOn_of_pulseDone h hf hrem resp
  · have hm : countDown s = { s with rem := s.rem - 1 } := by
      have hmore : s.rem - 1 ≠ 0 := by omega
      simp [countDown, hmore]
    rw [hm]
    exact Progress.goesOn_counts hf hpos

theorem Fsm.timing_of_busy {f : Fsm} (hidle : f ≠ .idle) (hwait : f.waiting = false) : f.timing = true := by
  cases f <;> simp [Fsm.waiting, Fsm.timing] at hidle hwait ⊢

/-- Parts 1 and 2 of a cycle of a command in flight with no line error (20_memory.md R68). -/
theorem goesOn_beforeBus {s : State} (h : s.Inv) (hbusy : s.fsm ≠ .idle) {resp : Resp} (hresp : resp ≠ .err) :
    s.progress.GoesOn resp (s.beforeBus resp).progress := by
  rw [← ticked_progress, beforeBus_eq, sequencer]
  cases hwait : s.fsm.waiting with
  | true =>
    rw [ticked_fsm, if_pos hwait]
    cases resp with
    | none => exact Progress.goesOn_unanswered hwait
    | ok => exact goesOn_of_answer h.ticked hwait
    | err => exact absurd rfl hresp
  | false =>
    have htiming := Fsm.timing_of_busy hbusy hwait
    rw [ticked_fsm, if_neg (by simp [hwait]), if_pos htiming]
    exact goesOn_of_countDown h.ticked htiming resp

/-! ### The accept -/

/-- What a command that goes on after its accept cycle has before it (70_reset_and_hazards.md R211, 43_frame.md R151). -/
def Progress.begins (i : Instr) (p : Progress) : Prop :=
  p.timeLeft = i.units * p.unit ∧ p.sets + p.setsLeft = i.setRequests

/-- The units of the symbol of a SYM code (42_symbol.md R140). -/
theorem ratio_units {sym : BitVec 2} {y : Symbol} (hy : symbolOf sym = some y) :
    (ratio y).1.toNat + (ratio y).2.toNat = (Instr.emitSymbol sym).units := by
  unfold symbolOf at hy
  split_ifs at hy with h0 h1 h2 <;> cases hy
  · simp [ratio, Instr.units, h0]
  · simp [ratio, Instr.units, h1]
  · simp [ratio, Instr.units, h2]

/-- At its first pulse a command that sends pulses has all its units and SET requests before it. -/
theorem Starts.left {i : Instr} {s t : State} (hs : Starts i s t.op t.v t.h t.l t.frame) (hstart : t.atStart)
    (hop : t.op ≠ .setLine) :
    t.progress.unitsLeft = i.units ∧ t.progress.setsAfter + 2 = i.setRequests := by
  obtain ⟨hrep, hidx, -⟩ := hstart
  have hleft : t.progress.unitsLeft = t.h.toNat + t.l.toNat + t.progress.unitsAfter := rfl
  have hunits : t.progress.unitsAfter = if t.op = .transmit then 1276 else 0 := by
    simp [Progress.unitsAfter, State.progress, hrep, hidx]
  have hsets : t.progress.setsAfter = if t.op = .transmit then 498 else 0 := by
    simp [Progress.setsAfter, State.progress, hrep, hidx]
  rw [hleft, hunits, hsets]
  cases i with
  | openCmd => exact hs.elim
  | closeCmd => exact hs.elim
  | setLine u => exact absurd hs.1 hop
  | emitPulse x y =>
    obtain ⟨hop, -, hh, hl, -⟩ := hs
    simp [hop, hh, hl, Instr.units, Instr.setRequests]
  | emitSymbol sym =>
    obtain ⟨hop, -, -, y, hy, hh, hl⟩ := hs
    simp [hop, hh, hl, ratio_units hy, Instr.setRequests]
  | transmit =>
    obtain ⟨hop, -, -, -, hh, hl⟩ := hs
    have hfour : t.h.toNat + t.l.toNat = 4 := by rw [hh, hl]; exact ratio_symAt_units t.frame 0
    simp [hop, hfour, Instr.units, Instr.setRequests]

/-- Only SET_LINE starts as SET_LINE. -/
theorem Starts.setLine {i : Instr} {s : State} {op : OpKind} {v : Level} {h l : BitVec 8} {frame : BitVec 24}
    (hs : Starts i s op v h l frame) (hop : op = .setLine) : i = .setLine v := by
  subst hop
  cases i with
  | openCmd => exact hs.elim
  | closeCmd => exact hs.elim
  | setLine u =>
    obtain ⟨-, rfl, -⟩ := hs
    rfl
  | emitPulse x y => cases hs.1
  | emitSymbol sym => cases hs.1
  | transmit => cases hs.1

/-- A command that drives the line has all its units and SET requests before it, but for the SET it starts with. -/
theorem Starts.begins {i : Instr} {s t : State} (hs : Starts i s t.op t.v t.h t.l t.frame) (hstart : t.atStart)
    (hfsm : (t.fsm = .wLookup ∧ t.setcnt = 0#32) ∨ (t.fsm = .wSetV ∧ t.op = .setLine ∧ t.setcnt = 1#32) ∨
      (t.fsm = .wSetH ∧ t.op ≠ .setLine ∧ t.setcnt = 1#32)) : t.progress.begins i := by
  have hf : t.progress.fsm = t.fsm := rfl
  have hp : t.progress.op = t.op := rfl
  have hc : t.progress.sets = t.setcnt.toNat := rfl
  by_cases hop : t.op = .setLine
  · obtain rfl := hs.setLine hop
    rcases hfsm with ⟨hfsm, hcnt⟩ | ⟨hfsm, -, hcnt⟩ | ⟨-, hne, -⟩
    · constructor <;> simp [Progress.timeLeft, Progress.setsLeft, hf, hp, hc, hfsm, hop, hcnt, Instr.units,
        Instr.setRequests]
    · constructor <;> simp [Progress.timeLeft, Progress.setsLeft, hf, hc, hfsm, hcnt, Instr.units, Instr.setRequests]
    · exact absurd hop hne
  · obtain ⟨hunits, hsets⟩ := hs.left hstart hop
    rw [Progress.begins, ← hunits, ← hsets]
    rcases hfsm with ⟨hfsm, hcnt⟩ | ⟨-, heq, -⟩ | ⟨hfsm, -, hcnt⟩
    · constructor <;> simp [Progress.timeLeft, Progress.setsLeft, hf, hp, hc, hfsm, hop, hcnt]
    · exact absurd heq hop
    · constructor <;> simp [Progress.timeLeft, Progress.setsLeft, hf, hc, hfsm, hcnt]
      omega

/-- A command that is in flight after its accept cycle has all its units and SET requests before it. -/
theorem AcceptStep.begins {i : Instr} {s t : State} (hst : AcceptStep (some i) s t) (hbusy : t.fsm ≠ .idle) :
    t.progress.begins i := by
  cases hst with
  | ends | opened | closed => exact absurd rfl hbusy
  | openRequested hcmd | releaseRequested hcmd =>
    cases hcmd
    exact ⟨(Nat.zero_mul _).symm, rfl⟩
  | lookupRequested j op v h l frame hcmd hopen hstart hb =>
    cases hcmd
    exact Starts.begins hstart (acceptClear_atStart s) (.inl ⟨rfl, rfl⟩)
  | setRequested j v h l frame hcmd hopen hstart =>
    cases hcmd
    exact Starts.begins hstart (acceptClear_atStart s) (.inr (.inl ⟨rfl, rfl, rfl⟩))
  | pulseStarted j op v h l frame hcmd hopen hstart hop =>
    cases hcmd
    exact Starts.begins hstart (acceptClear_atStart s) (.inr (.inr ⟨rfl, hop, rfl⟩))

/-! ### The run of a command -/

/-- A command that completes without a line error ends with OK (60_exceptions.md R171). -/
theorem SeqStep.completes_ok {resp : Resp} {s t : State} (hst : SeqStep resp s t) (hq : s.out.completed = false)
    (hresp : resp ≠ .err) (hc : t.out.completed = true) : t.err = .ok ∧ t.done = true ∧ t.fsm = .idle := by
  cases hst
  case opened | released | lineSet | ends => exact ⟨rfl, rfl, rfl⟩
  case releaseFails herr | fails herr _ => exact absurd herr hresp
  all_goals simp [hq] at hc

/-- A cycle of a command in flight that accepts nothing. -/
theorem goesOn_of_step {s t : State} (h : s.Inv) (hstep : step s = .next t) (hbusy : s.fsm ≠ .idle)
    (hr : s.input.rst = false) (hresp : s.input.resp ≠ .err) (hno : ¬ s.accepts) :
    s.progress.GoesOn s.input.resp t.progress := by
  have hview := commandView_of_no_accept hstep hr hno
  have hsame : t.progress = (s.beforeBus s.input.resp).progress := (congrArg State.progress hview :)
  exact hsame ▸ goesOn_beforeBus h hbusy hresp

/-- A command that completes in a cycle with no CMD write and no line error has ended with OK, and the host has not cleared
DONE (70_reset_and_hazards.md R207). -/
theorem completed_ok {s t : State} (hstep : step s = .next t) (hr : s.input.rst = false)
    (hresp : s.input.resp ≠ .err) (hcmd : cmdWritten s.cfg s.input.bus = none) (hc : t.out.completed = true) :
    t.err = .ok ∧ t.done = true ∧ t.fsm = .idle := by
  have hends := (seqStep_beforeBus s.input.resp s).completes_ok rfl hresp
  rcases step_cases hstep hr rfl with ⟨-, d, e, ht⟩ | ⟨w, hw, -⟩ | ⟨w, hw, -⟩ | ⟨-, w, _, _, -, -, ht⟩ |
    ⟨-, r, w, _, _, -, -, ht⟩
  · subst ht
    exact hends hc
  · simp [hcmd] at hw
  · simp [hcmd] at hw
  · subst ht
    obtain ⟨herr, hdone, hidle⟩ := hends hc
    rw [writeStatus_out] at hc
    exact ⟨herr, by simp [hdone, hc], hidle⟩
  · subst ht
    simpa using hends (by simpa using hc)

theorem trace_inv {t : Nat → State} (ht : Trace t) (h0 : (t 0).Inv) (k : Nat) : (t k).Inv := by
  induction k with
  | zero => exact h0
  | succ k ih => exact invariantKept (t k) (t (k + 1)) ih (ht k)

/-- The command in flight goes on in each of the `m` cycles from cycle 1 on. -/
def GoesOnFor (t : Nat → State) (m : Nat) : Prop :=
  ∀ k, k < m → (t (1 + k)).progress.GoesOn (t (1 + k)).input.resp (t (1 + k + 1)).progress

/-- Every cycle of a command is one of a wait or one of a phase, and every SET it issues is one of those it had left. -/
theorem GoesOnFor.spent {t : Nat → State} {m : Nat} (h : GoesOnFor t m) :
    (t 1).progress.timeLeft + waitCycles t 1 m = (t (1 + m)).progress.timeLeft + m ∧
    (t 1).progress.sets + (t 1).progress.setsLeft = (t (1 + m)).progress.sets + (t (1 + m)).progress.setsLeft := by
  induction m with
  | zero => exact ⟨rfl, rfl⟩
  | succ m ih =>
    obtain ⟨htime, hsets⟩ := ih fun k hk => h k (by omega)
    obtain ⟨htime', hsets', -, -⟩ := h m (by omega)
    refine ⟨?_, hsets.trans hsets'⟩
    change (t (1 + m)).progress.timeLeft = _ + if (t (1 + m)).fsm.waiting then 0 else 1 at htime'
    rw [waitCycles, ← Nat.add_assoc, htime, htime', Nat.add_assoc 1 m 1]
    split_ifs <;> omega

section
variable {t : Nat → State} {i : Instr} {w : Word} {n : Nat} (ht : Trace t) (h0 : (t 0).Inv)
  (hdecode : decode w = .command i) (hstart : CommandAtStart t w) (hrun : ∀ k, 1 ≤ k → k ≤ n → RunsOn t k)
  (hgo : ∀ k, 1 ≤ k → k < n → (t (k + 1)).out.completed = false)
include ht

include hdecode hstart in
/-- The command is accepted in cycle 0 (60_exceptions.md R170). -/
theorem acceptStep_of_start : AcceptStep (some i) (t 0).ticked (t 1) := by
  obtain ⟨hidle, hr, hw⟩ := hstart
  have hm := beforeBus_of_idle (t 0).input.resp hidle
  rcases running_cases (ht 0) hr with ⟨w', hw', -, hacc⟩ | ⟨hno, -⟩
  · obtain rfl := Option.some.inj (hw.symm.trans hw')
    rwa [commandOf_of_decode (.inl hdecode), hm] at hacc
  · exact absurd ⟨by simp [hw], by rw [hm]; exact hidle⟩ hno

include hdecode hstart hrun in
/-- What a command that runs on in cycle 1 has before it then. -/
theorem begins_of_start (hn : 1 ≤ n) :
    (t 1).progress.timeLeft = i.units * (t 1).activePl.toNat * (t 0).cfg.clkPerUs ∧
    (t 1).progress.sets + (t 1).progress.setsLeft = i.setRequests := by
  obtain ⟨hbusy, -⟩ := hrun 1 le_rfl hn
  obtain ⟨htime, hsets⟩ := (acceptStep_of_start ht hdecode hstart).begins hbusy
  refine ⟨?_, hsets⟩
  rw [htime, ← trace_cfg ht 1, Nat.mul_assoc]
  rfl

include h0 hrun hgo in
/-- A command that has not ended before cycle `n` goes on up to cycle `n`. -/
theorem goesOnFor_of_run {m : Nat} (hm : m < n) : GoesOnFor t m := by
  intro k hk
  obtain ⟨hbusy, hr, hresp⟩ := hrun (1 + k) (by omega) (by omega)
  have hc := hgo (1 + k) (by omega) (by omega)
  exact goesOn_of_step (trace_inv ht h0 _) (ht _) hbusy hr hresp fun hacc => busy_beforeBus (ht _) hr hbusy hc hacc.2

end

/-- Settles O56: each cycle of the command is one of a wait or takes one off the time left, up to the end, where nothing is
left. -/
theorem commandDuration : Obligations.CommandDuration := by
  intro t i w n ht h0 hdecode hstart hn hrun hgo hcmd hc
  obtain ⟨hbusy, hr, hresp⟩ := hrun n hn le_rfl
  obtain ⟨herr, hdone, hidle⟩ := completed_ok (ht n) hr hresp hcmd hc
  obtain ⟨htime, hsets⟩ := begins_of_start ht hdecode hstart hrun hn
  have hall : GoesOnFor t n := by
    intro k hk
    by_cases hlast : 1 + k = n
    · rw [hlast]
      exact goesOn_of_step (trace_inv ht h0 n) (ht n) hbusy hr hresp fun hacc => hacc.1 hcmd
    · exact goesOnFor_of_run ht h0 hrun hgo (show k + 1 < n by omega) k (Nat.lt_succ_self k)
  obtain ⟨hspent, hissued⟩ := hall.spent
  have hend : (t (1 + n)).progress.fsm = .idle := by rw [Nat.add_comm]; exact hidle
  have hno : (t (1 + n)).progress.timeLeft = 0 ∧ (t (1 + n)).progress.setsLeft = 0 := by
    simp [Progress.timeLeft, Progress.setsLeft, hend]
  refine ⟨?_, ?_, herr, hdone, hidle⟩
  · rw [hno.1, htime] at hspent
    omega
  · rw [hno.2, hsets, Nat.add_comm 1 n] at hissued
    exact hissued.symm

/-! ### Waiting for the line agent -/

/-- In the `n` cycles from cycle 1 on the line agent answers every request, with OK, within `L` cycles (40_line.md R101). -/
def AnswersWithin (t : Nat → State) (n L : Nat) : Prop :=
  ∀ k, 1 ≤ k → k + L ≤ n + 1 →
      ∃ j, j < L ∧ ((t (k + j)).fsm.waiting = false ∨ (t (k + j)).input.resp = .ok)

/-- How many of the cycles just before cycle `a + n`, from cycle `a` on, were spent in a wait with no answer. -/
def unanswered (t : Nat → State) (a : Nat) : Nat → Nat
  | 0 => 0
  | n + 1 => if (t (a + n)).fsm.waiting = true ∧ (t (a + n)).input.resp ≠ .ok then unanswered t a n + 1 else 0

theorem unanswered_spec (t : Nat → State) (a n : Nat) : unanswered t a n ≤ n ∧
    ∀ k, n - unanswered t a n ≤ k → k < n → (t (a + k)).fsm.waiting = true ∧ (t (a + k)).input.resp ≠ .ok := by
  induction n with
  | zero => exact ⟨le_rfl, fun k _ hk => absurd hk (Nat.not_lt_zero k)⟩
  | succ n ih =>
    obtain ⟨hle, hall⟩ := ih
    rw [unanswered]
    split_ifs with hnow
    · refine ⟨by omega, fun k hlo hhi => ?_⟩
      by_cases hk : k = n
      · exact hk ▸ hnow
      · exact hall k (by omega) (by omega)
    · exact ⟨Nat.zero_le _, fun k hlo hhi => by omega⟩

/-- If every request is answered within `L` cycles, no wait has gone on for `L` cycles. -/
theorem unanswered_lt {t : Nat → State} {n L m : Nat} (hm : m ≤ n)
    (hL : AnswersWithin t n L) : unanswered t 1 m < L := by
  obtain ⟨hle, hall⟩ := unanswered_spec t 1 m
  by_contra hlong
  obtain ⟨j, hj, hanswered⟩ := hL (1 + (m - L)) (by omega) (by omega)
  obtain ⟨hwait, hresp⟩ := hall (m - L + j) (by omega) (by omega)
  rw [Nat.add_assoc] at hanswered
  rcases hanswered with hfree | hok
  · simp [hwait] at hfree
  · exact hresp hok

/-- A command that is not waiting has no unanswered wait just behind it. -/
theorem GoesOnFor.unanswered_eq_zero {t : Nat → State} {m : Nat} (h : GoesOnFor t m)
    (hresp : ∀ k, k < m → (t (1 + k)).input.resp ≠ .err) (hf : (t (1 + m)).fsm.waiting = false) :
    unanswered t 1 m = 0 := by
  cases m with
  | zero => rfl
  | succ m =>
    rw [unanswered, if_neg]
    rintro ⟨hwait, hok⟩
    have hnone : (t (1 + m)).input.resp = .none := by
      have herr := hresp m (by omega)
      cases hr : (t (1 + m)).input.resp <;> simp [hr] at hok herr ⊢
    have hsame : (t (1 + m + 1)).fsm = (t (1 + m)).fsm := (h m (by omega)).waits hwait hnone
    rw [← Nat.add_assoc, hsame, hwait] at hf
    cases hf

/-- The waits of a command so far are paid by the answers it has had, `L` cycles each, and by the wait going on. -/
theorem GoesOnFor.waitCycles_le {t : Nat → State} {n L m : Nat} (h : GoesOnFor t m) (hm : m ≤ n)
    (hresp : ∀ k, k < m → (t (1 + k)).input.resp ≠ .err)
    (hL : AnswersWithin t n L) :
    waitCycles t 1 m + (t (1 + m)).progress.answersLeft * L ≤
      (t 1).progress.answersLeft * L + unanswered t 1 m := by
  induction m with
  | zero => simp [waitCycles]
  | succ m ih =>
    have hbefore : GoesOnFor t m := fun k hk => h k (by omega)
    have hresp' : ∀ k, k < m → (t (1 + k)).input.resp ≠ .err := fun k hk => hresp k (by omega)
    have hle := ih hbefore (by omega) hresp'
    have hlt := unanswered_lt (m := m) (by omega) hL
    have hanswers : (t (1 + m)).progress.answersLeft = (t (1 + (m + 1))).progress.answersLeft +
        if (t (1 + m)).fsm.waiting = true ∧ (t (1 + m)).input.resp = .ok then 1 else 0 := (h m (by omega)).answers
    rw [hanswers, Nat.add_mul] at hle
    rw [waitCycles, unanswered]
    cases hwait : (t (1 + m)).fsm.waiting with
    | false =>
      rw [hbefore.unanswered_eq_zero hresp' hwait] at hle
      simp only [hwait] at hle ⊢
      simpa using hle
    | true =>
      by_cases hok : (t (1 + m)).input.resp = .ok
      · simp only [hwait, hok, and_self, if_true, Nat.one_mul, ne_eq, not_true_eq_false, and_false, if_false] at hle ⊢
        omega
      · simp only [hwait, hok, and_false, if_false, Nat.zero_mul, ne_eq, not_false_eq_true, and_self, if_true] at hle ⊢
        omega

/-- A command that has gone on up to cycle `m + 1` has waited, that cycle included, for at most `L` cycles for each of its
answers. -/
theorem GoesOnFor.all_waits_le {t : Nat → State} {n L m : Nat} (h : GoesOnFor t m) (hm : m < n)
    (hresp : ∀ k, k < m → (t (1 + k)).input.resp ≠ .err)
    (hL : AnswersWithin t n L) :
    waitCycles t 1 (m + 1) ≤ (t 1).progress.answersLeft * L := by
  have hle := h.waitCycles_le hm.le hresp hL
  have hlt := unanswered_lt hm.le hL
  rw [waitCycles]
  cases hwait : (t (1 + m)).fsm.waiting with
  | false =>
    rw [h.unanswered_eq_zero hresp hwait] at hle
    simp only [Bool.false_eq_true, if_false]
    omega
  | true =>
    have hone : 1 * L ≤ (t (1 + m)).progress.answersLeft * L := by
      have hf : (t (1 + m)).progress.fsm.waiting = true := hwait
      exact Nat.mul_le_mul_right L (by simp [Progress.answersLeft, hf])
    simp only [if_true]
    omega

/-- Settles O57: each cycle of the command is one of a wait or takes one off the time left, and the waits are at most `L`
cycles for each answer. -/
theorem commandsComplete : Obligations.CommandsComplete := by
  intro t i w n L ht h0 hdecode hstart hrun hgo hL
  cases n with
  | zero => exact Nat.zero_le _
  | succ m =>
    obtain ⟨hbusy, hr, hresp⟩ := hrun (1 + m) (by omega) (by omega)
    obtain ⟨htime, hsets⟩ := begins_of_start ht hdecode hstart hrun (by omega)
    have hbefore : GoesOnFor t m := goesOnFor_of_run ht h0 hrun hgo (Nat.lt_succ_self m)
    have hnoerr : ∀ k, k < m → (t (1 + k)).input.resp ≠ .err := fun k hk => by
      obtain ⟨-, -, hresp⟩ := hrun (1 + k) (by omega) (by omega)
      exact hresp
    have hwaits := hbefore.all_waits_le (Nat.lt_succ_self m) hnoerr hL
    have hspent := hbefore.spent.1
    have hlast : (t (1 + m)).progress.timeLeft = _ + if (t (1 + m)).fsm.waiting then 0 else 1 :=
      (goesOn_beforeBus (trace_inv ht h0 _) hbusy hresp).time
    have hanswers : (t 1).progress.answersLeft * L ≤ (i.setRequests + 1) * L := by
      refine Nat.mul_le_mul_right L ?_
      rw [Progress.answersLeft, ← hsets]
      split_ifs <;> omega
    rw [htime] at hspent
    rw [waitCycles] at hwaits
    cases hwait : (t (1 + m)).fsm.waiting <;> simp only [hwait, Bool.false_eq_true, if_true, if_false] at hlast hwaits <;>
      omega

end Sys2Proof.Machine

/-! ## Results and interrupts -/

namespace Sys2Proof.Machine

/-- Settles O60: each row of the table evaluates to its number. -/
theorem resultCodes : Obligations.ResultCodes := by
  unfold Obligations.ResultCodes
  decide

/-- Settles O9: the next state is `State.after`, whatever the inputs are. -/
theorem everyCycleSteps : Obligations.EveryCycleSteps := fun s =>
  have ⟨hcfg, hinputs⟩ := after_keeps s
  ⟨s.after, step_eq_next s, hinputs, hcfg⟩

/-- Settles O8: a cycle with no access is parts 1 and 2, and a rejected write adds `reject` to them. -/
theorem busyBlockRejects : Obligations.BusyBlockRejects := fun s resp w hbusy =>
  ⟨step_withInput s resp none, step_rejects w hbusy⟩

/-! ### A command that fails its checks -/

/-- Only a command that ends at once leaves its accept cycle with a result other than OK (60_exceptions.md R172). -/
theorem endsAtOnce_of_err_ne_ok {i : Instr} {s : State} (herr : (acceptCommand i s).err ≠ .ok) :
    ∃ r, endsAtOnce i s r ∧ acceptCommand i s = complete r (acceptClear s) := by
  rcases acceptCommand_cases i s with hends | ⟨-, -, -, -, ⟨-, e⟩ | ⟨-, e⟩⟩ | ⟨-, -, ⟨-, e⟩ | ⟨-, e⟩⟩ |
    ⟨-, _, _, _, _, _, -, ⟨-, e⟩ | ⟨-, -, e⟩ | ⟨-, -, e⟩⟩
  · exact hends
  all_goals exact absurd (by rw [e]; rfl) herr

/-- Settles O29: the command ends at once, by `complete` on the cleared state, with a result of its row of R172. -/
theorem errorsChangeOnlyBookkeeping : Obligations.ErrorsChangeOnlyBookkeeping := by
  intro i s t hexec herr
  rw [exec_eq_next, Host.Outcome.next.injEq] at hexec
  subst hexec
  obtain ⟨r, hr, e⟩ := endsAtOnce_of_err_ne_ok herr
  rw [e] at herr ⊢
  refine ⟨rfl, ?_⟩
  cases i with
  | openCmd => exact hr.imp And.left (Or.imp And.left And.left)
  | closeCmd => exact herr hr.1
  | setLine v => exact hr.1
  | emitPulse h l => exact hr.imp And.left And.left
  | emitSymbol sym => exact hr.imp And.left And.left
  | transmit => exact hr.imp And.left And.left

/-! ### irq -/

theorem irq_eq_true_iff {s : State} : s.irq = true ↔ s.done = true ∧ s.ie = true := by
  rw [State.irq, Bool.and_eq_true]

theorem AcceptStep.ie_eq {cmd : Option Instr} {s t : State} (hst : AcceptStep cmd s t) : t.ie = s.ie := by
  cases hst <;> rfl

/-- Only a store to CTRL changes IE, to bit 0 of the word (10_state.md R24). -/
theorem storeReg_ie_changes {r : Reg} {w : Word} {s : State} (h : (storeReg r w s).ie ≠ s.ie) :
    r = .ctrl ∧ (storeReg r w s).ie = w.getLsbD 0 := by
  cases r
  case ctrl => exact ⟨rfl, rfl⟩
  all_goals exact absurd rfl h

/-- IE becomes 1 only by a host's write of 1 to bit 0 of CTRL (10_state.md R24). -/
theorem ie_rises {s t : State} (hstep : step s = .next t) (h0 : s.ie = false) (h1 : t.ie = true) :
    ∃ w width addr, s.input.bus = some (.write width addr w) ∧ target s.cfg width addr = .reg .ctrl ∧
      w.getLsbD 0 = true := by
  by_cases hr : s.input.rst = true
  · obtain rfl := eq_resetCycle hstep hr
    cases h1
  have hne : t.ie ≠ (s.beforeBus s.input.resp).ie := by simp [h0, h1]
  rcases step_cases hstep (by simpa using hr) rfl with ⟨-, _, _, e⟩ | ⟨w, -, -, e⟩ | ⟨_, -, -, e⟩ | ⟨-, _, _, _, -, -, e⟩ |
    ⟨-, r, w, width, addr, hbus, htarget, e⟩ <;> subst e
  · exact absurd rfl hne
  · exact absurd (acceptStep_acceptWord w _).ie_eq hne
  · exact absurd rfl hne
  · exact absurd rfl hne
  · obtain ⟨rfl, hbit⟩ := storeReg_ie_changes hne
    exact ⟨w, width, addr, hbus, htarget, hbit.symm.trans h1⟩

/-- Settles O47: irq rises with DONE, which only a completion sets, or with IE while DONE is 1. -/
theorem irqRisesOnlyByCompletion : Obligations.IrqRisesOnlyByCompletion := by
  intro s t hstep
  refine ⟨irq_eq_true_iff, fun hlow hhigh => ?_⟩
  obtain ⟨hdone, hie⟩ := irq_eq_true_iff.mp hhigh
  cases hs : s.done with
  | false =>
    obtain ⟨hset, -⟩ := doneMeansCompleted s t hstep
    exact .inl (hset hs hdone)
  | true =>
    have hmasked : s.ie = false := by simpa [State.irq, hs] using hlow
    obtain ⟨w, width, addr, hbus, htarget, hbit⟩ := ie_rises hstep hmasked hie
    exact .inr ⟨w, width, addr, hbus, htarget, hbit, rfl⟩

/-! ### US_COUNT -/

theorem AcceptStep.cyc_eq {cmd : Option Instr} {s t : State} (hst : AcceptStep cmd s t) : t.cyc = s.cyc := by
  cases hst <;> rfl

/-- Every cycle with no reset moves the cycle number on by one (00_scope.md R11). -/
theorem cyc_of_step {s t : State} (hstep : step s = .next t) (hr : s.input.rst = false) : t.cyc = s.cyc + 1 := by
  have hm : (s.beforeBus s.input.resp).cyc = s.cyc + 1 := sequencer_cyc _ s.ticked
  rcases running_cases hstep hr with ⟨w, -, -, hst⟩ | ⟨-, hview⟩
  · exact hst.cyc_eq.trans hm
  · exact (congrArg State.cyc hview :).trans hm

/-- With no reset, the cycle number counts the cycles of the run. -/
theorem trace_cyc {t : Nat → State} {k : Nat} (ht : Trace t) (hr : ∀ j, j < k → (t j).input.rst = false) :
    (t k).cyc = (t 0).cyc + k := by
  induction k with
  | zero => rfl
  | succ k ih =>
    rw [cyc_of_step (ht k) (hr k (Nat.lt_succ_self k)), ih fun j hj => hr j (Nat.lt_succ_of_lt hj), Nat.add_assoc]

/-- Settles O40: the invariant gives US_COUNT from the cycle number, which is `k` in cycle `k`. -/
theorem usCountCountsMicroseconds : Obligations.UsCountCountsMicroseconds := by
  intro t c ins k ht hc h0 hr
  have hinv : (t k).Inv := trace_inv ht (h0 ▸ resetWith_inv hc ins) k
  have hcfg : (t k).cfg = c := by rw [trace_cfg ht, h0, resetWith_cfg]
  have hcyc : (t k).cyc = k := by rw [trace_cyc ht hr, h0, resetWith_cyc, Nat.zero_add]
  rw [State.readReg, hinv.usCount, hcfg, hcyc, BitVec.toNat_ofNat]

end Sys2Proof.Machine

/-! ## Reset and hazards -/

namespace Sys2Proof.Machine

/-! ### A request that is never answered -/

theorem Fsm.ne_idle_of_waiting {f : Fsm} (h : f.waiting = true) : f ≠ .idle := by
  rintro rfl
  cases h

/-- Parts 1 and 2 of an unanswered cycle of a wait move on the counters alone (20_memory.md R68). -/
theorem beforeBus_of_unanswered {s : State} (hf : s.fsm.waiting = true) : s.beforeBus .none = s.ticked := by
  rw [beforeBus_eq, sequencer, ticked_fsm, if_pos hf]
  rfl

/-- An unanswered cycle of a wait changes the counters and what a host can write, and nothing else
(70_reset_and_hazards.md R209). -/
theorem commandView_of_unanswered {s t : State} (h : step s = .next t) (hr : s.input.rst = false)
    (hresp : s.input.resp = .none) (hf : s.fsm.waiting = true) : t.commandView = s.ticked.commandView := by
  have hm : s.beforeBus s.input.resp = s.ticked := hresp ▸ beforeBus_of_unanswered hf
  rw [← hm]
  exact commandView_of_busy h hr (hm ▸ Fsm.ne_idle_of_waiting hf)

/-- A wait that is never answered never ends (70_reset_and_hazards.md R209). -/
theorem fsm_of_unanswered {t : Nat → State} (ht : Trace t) (hf : (t 0).fsm.waiting = true)
    (hin : ∀ k, (t k).input.rst = false ∧ (t k).input.resp = .none) (k : Nat) : (t k).fsm = (t 0).fsm := by
  induction k with
  | zero => rfl
  | succ k ih =>
    obtain ⟨hr, hresp⟩ := hin k
    have hview := commandView_of_unanswered (ht k) hr hresp (ih ▸ hf)
    exact (congrArg State.fsm hview).trans ih

/-- Settles O58: the wait never ends, each of its cycles issues and completes nothing, and a CMD write finds it busy. -/
theorem unansweredRequestHangs : Obligations.UnansweredRequestHangs := by
  intro t ht hf hin k
  obtain ⟨hr, hresp⟩ := hin k
  have hfsm := fsm_of_unanswered ht hf hin k
  have hwait : (t k).fsm.waiting = true := hfsm ▸ hf
  have hbusy : (t k).fsm ≠ .idle := Fsm.ne_idle_of_waiting hwait
  have hview := commandView_of_unanswered (ht k) hr hresp hwait
  refine ⟨hfsm, decide_eq_true hbusy, (congrArg (·.out.lreq) hview :), (congrArg (·.out.completed) hview :), fun hcmd => ?_⟩
  obtain ⟨hrejects, -, -⟩ := rejMeansRejected (t k) (t (k + 1)) (ht k)
  exact hrejects hr hcmd (by rwa [beforeBus_fsm_of_unanswered hwait hresp])

/-! ### Reset -/

/-- A reset cycle gives no output but the data of a read (70_reset_and_hazards.md R200). -/
theorem resetOutputs_eq (c : Config) (bus : Option Access) :
    resetOutputs c bus =
      { rdata := (resetOutputs c bus).rdata, busErr := false, lreq := none, completed := false } := by
  match bus with
  | none => rfl
  | some (.write _ _ _) => rfl
  | some (.read width addr) => simp only [resetOutputs]; split <;> rfl

/-- A read of the window in a reset cycle returns 0, whatever its width and alignment (70_reset_and_hazards.md R200; log
entry 7). -/
theorem resetOutputs_read {c : Config} {width : Width} {addr : Nat} (hlo : c.base ≤ addr) (hhi : addr < c.base + 64) :
    (resetOutputs c (some (.read width addr))).rdata = some 0#32 := by
  have hin : target c width addr ≠ .outside := by rw [Ne, target_eq_outside_iff]; omega
  simp only [resetOutputs, if_neg hin]

/-- Settles O10: the cycle is `resetCycle`, which takes only the parameters and the inputs to come from the state. -/
theorem resetCycleClears : Obligations.ResetCycleClears := by
  intro s resp bus
  refine ⟨(resetOutputs s.cfg bus).rdata, ?_, ?_, rfl⟩
  · rw [← resetOutputs_eq, step_of_reset rfl]
    rfl
  · rintro width addr rfl hlo hhi
    exact resetOutputs_read hlo hhi

/-- The parameters show in no register but ID after reset (70_reset_and_hazards.md R201). -/
theorem readReg_resetWith {r : Reg} (hr : r ≠ .id) (c : Config) (ins : List CycleInput) :
    (State.resetWith c ins).readReg r = State.reset.readReg r := by
  cases r
  case id => exact absurd rfl hr
  all_goals rfl

/-- Settles O11: ID follows BACKEND, and the other registers are those of the reference block. -/
theorem resetValues : Obligations.ResetValues := by
  intro c ins s
  have hid : s.readReg .id = idWord c := rfl
  have hreg {r : Reg} {w : Word} (hr : r ≠ .id) (hw : State.reset.readReg r = w) : s.readReg r = w :=
    (readReg_resetWith hr c ins).trans hw
  refine ⟨fun hb => ?direct, fun hb => ?board, hreg ?_ ?_, hreg ?_ ?_, hreg ?_ ?_, hreg ?_ ?_, hreg ?_ ?_, hreg ?_ ?_,
    hreg ?_ ?_, hreg ?_ ?_, hreg ?_ ?_, hreg ?_ ?_, hreg ?_ ?_, rfl, rfl, rfl, rfl, rfl, rfl, rfl, rfl, rfl⟩
  case direct | board =>
    rw [hid, idWord, hb]
    decide
  all_goals decide

/-- Settles O38: `resetWith_inv`, clause by clause. -/
theorem invariantAtReset : Obligations.InvariantAtReset := fun _ ins hc => resetWith_inv hc ins

/-! ### A W1C write of STATUS -/

/-- A W1C write, as one equation of the two bits (10_state.md R25). -/
theorem writeStatus_eq (w : Word) (s : State) :
    writeStatus w s =
      { s with done := s.done && !(w.getLsbD 2 && !s.out.completed), rej := s.rej && !w.getLsbD 3 } := by
  simp only [writeStatus, Bool.if_false_left, Bool.decide_eq_true, Bool.and_comm]

/-- A command that completes in part 2 sets DONE (60_exceptions.md R170). -/
theorem SeqStep.done_of_completed {resp : Resp} {s t : State} (hst : SeqStep resp s t) (hq : s.out.completed = false)
    (hc : t.out.completed = true) : t.done = true := by
  cases hst
  case opened | released | releaseFails | lineSet | fails | ends => rfl
  all_goals exact absurd hc (by simp [hq])

/-- Settles O17: the write is `writeStatus` on the state after part 2, where a completion has set DONE. -/
theorem statusWriteOneToClear : Obligations.StatusWriteOneToClear := by
  intro s resp w m
  refine ⟨?_, (seqStep_beforeBus resp s).done_of_completed rfl⟩
  rw [step_write, ← writeStatus_eq]
  rfl

end Sys2Proof.Machine
